-- ==== Sys2Proof/Word.lean ====
section
/-! DEFINITION. The widths the spec uses (00_scope.md R9): bytes, 32-bit window words, u64 limbs, u128 column sums. -/

namespace Sys2Proof

/-- A byte of a buffer, and a signed digit (i8) held in two's complement (R9, R35). -/
abbrev Byte := BitVec 8

/-- A word of the host window (R65). -/
abbrev Word32 := BitVec 32

/-- One limb of a field element (R11). -/
abbrev U64 := BitVec 64

/-- A column sum of the multiplier (R127). -/
abbrev U128 := BitVec 128

end Sys2Proof
end

