-- ==== Sys2Proof/Config.lean ====
section
/-! DEFINITION. What an instance of the block fixes: the window's base address, the platform's choice (20_memory.md R60, R68),
and the counts of 00_scope.md R8, which this model takes at the values the encodings assume.

The register-file sizes NF = 32, NS = 8, NP = 16, NJ = NC = 4, NQ = NA = 8, NLT = NNT = NDG = 8, NAT = 2, NK = 8, NIO = 4 are the
vector lengths of Machine/State.lean. NMSM is below. No spec value is left open, so there is no free value here. -/

namespace Sys2Proof.Config

/-- The window's 4096-byte page: the platform chooses it (R60, R68). No body, so a claim holds for every choice. -/
opaque basePage : Nat

/-- `BASE`, a multiple of 4096 (R60). -/
def base : Nat := 4096 * basePage

/-- The address at which the platform shows the window's byte offset `off` (R14 `BASE + off`, R60). -/
def windowAddress (off : Nat) : Nat := base + off

/-- Bytes in the window (R60). -/
def windowSize : Nat := 4096

/-- The constant the ID register reads as (R39). -/
def idValue : Word32 := 0x25519007

/-- `NMSM`: the largest pair count of a multi-scalar command (R8). -/
def nMsm : Nat := 8

end Sys2Proof.Config
end

