-- ==== Sys2Proof/Syntax.lean ====
section
/-! DEFINITION. The 79 commands (30_encoding.md R96), one constructor per row of opcode_table.json, with the operands each command's
rule names. A register operand carries its file's range in its type (R92); immediates that are legal only on part of
their range are checked in WellFormed.lean. -/

namespace Sys2Proof

/-- The five constants of FLDC (R95 kind CONST): 0 zero, 1 one, 2 d, 3 2d, 4 sqrtm1. -/
inductive FieldConst where
  | zero | one | d | d2 | sqrtm1
  deriving DecidableEq, Repr

/-- XGET's source (R102, R313): a class, a register of that class and a component of it.
Components in order: P (X, Y, Z, T); J (X, Y, Z); C (X, Y, Z, T); Q (YpX, YmX, Z, T2d); A (YpX, YmX, T2d). -/
inductive Component where
  | ofP (reg : Fin 16) (comp : Fin 4)
  | ofJ (reg : Fin 4) (comp : Fin 3)
  | ofC (reg : Fin 4) (comp : Fin 4)
  | ofQ (reg : Fin 8) (comp : Fin 4)
  | ofA (reg : Fin 8) (comp : Fin 3)
  deriving DecidableEq, Repr

/-- A command with its operands. Operands stand in the order of the assembler syntax (R103): destination first. -/
inductive Instr where
  -- system (45_system.md)
  | nop
  | kset (d : Fin 8) (bit : Bool)
  | dgst (n : Fin 4) (a : Fin 8) (blk : Fin 4)
  | xget (d : Fin 32) (src : Component)
  -- field (40_field.md)
  | fldc (d : Fin 32) (const : FieldConst)
  | fmov (d a : Fin 32)
  | fadd (d a b : Fin 32)
  | fsub (d a b : Fin 32)
  | fneg (d a : Fin 32)
  | fmul (d a b : Fin 32)
  | fsqr (d a : Fin 32)
  | fmul32 (d a : Fin 32)
  | fcarry (d a : Fin 32)
  | freduce (d a : Fin 32)
  | finv (d a : Fin 32)
  | fpow (d a : Fin 32)
  | fsqrtr (d : Fin 32) (k : Fin 8) (u v : Fin 32)
  | fisneg (k : Fin 8) (a : Fin 32)
  | feq (k : Fin 8) (a b : Fin 32)
  | fsel (d a b : Fin 32) (c : Fin 8)
  | fswap (a b : Fin 32) (c : Fin 8)
  | fcneg (d a : Fin 32) (c : Fin 8)
  | fsetb (d : Fin 32) (n : Fin 4)
  | fgetb (n : Fin 4) (a : Fin 32)
  | fldl (d : Fin 32) (n : Fin 4)
  | fstl (n : Fin 4) (a : Fin 32)
  -- scalar (41_scalar.md)
  | smov (d a : Fin 8)
  | sadd (d a b : Fin 8)
  | ssub (d a b : Fin 8)
  | sneg (d a : Fin 8)
  | smul (d a b : Fin 8)
  | sinv (d a : Fin 8)
  | seq (k a b : Fin 8)
  | ssetc (d : Fin 8) (n : Fin 4)
  | ssetu (d : Fin 8) (n : Fin 4)
  | ssetcl (d : Fin 8) (n : Fin 4)
  | sgetb (n : Fin 4) (a : Fin 8)
  | srdx16 (g a : Fin 8)
  | snaf (g a : Fin 8) (w : Nat)
  -- coordinates, adder and doubler (42_coords.md)
  | jfromp (d : Fin 4) (a : Fin 16)
  | jfromc (d a : Fin 4)
  | pfromc (d : Fin 16) (a : Fin 4)
  | qfromp (d : Fin 8) (a : Fin 16)
  | afromp (d : Fin 8) (a : Fin 16)
  | cadd (d : Fin 4) (a : Fin 16) (b : Fin 8)
  | csub (d : Fin 4) (a : Fin 16) (b : Fin 8)
  | cadda (d : Fin 4) (a : Fin 16) (b : Fin 8)
  | csuba (d : Fin 4) (a : Fin 16) (b : Fin 8)
  | cdbl (d a : Fin 4)
  -- tables (43_tables.md)
  | ltbuild (d : Fin 8) (a : Fin 16)
  | ltsel (d a b : Fin 8) (i : Fin 256)
  | ltseli (d a : Fin 8) (x : Int)
  | atbuild (d : Fin 2) (a : Fin 16)
  | atsel (d : Fin 8) (a : Fin 2) (b : Fin 8) (i : Fin 256)
  | atseli (d : Fin 8) (a : Fin 2) (x : Int)
  | btsel (d : Fin 8) (r : Fin 32) (b : Fin 8) (i : Fin 256)
  | btseli (d : Fin 8) (r : Fin 32) (x : Int)
  | ntbuild (d : Fin 8) (a : Fin 16)
  | ntsel (d a : Fin 8) (m : Nat)
  | bnsel (d : Fin 8) (m : Nat)
  -- points (44_point.md)
  | pident (d : Fin 16)
  | pgen (d : Fin 16)
  | pmov (d a : Fin 16)
  | psetb (d : Fin 16) (n : Fin 4)
  | pgetb (n : Fin 4) (a : Fin 16)
  | pgetm (n : Fin 4) (a : Fin 16)
  | padd (d a b : Fin 16)
  | psub (d a b : Fin 16)
  | pneg (d a : Fin 16)
  | peq (k : Fin 8) (a b : Fin 16)
  | pmul8 (d a : Fin 16)
  | pmull (d a : Fin 16)
  | pext (d : Fin 29) (a : Fin 16)
  | psetext (d : Fin 16) (a : Fin 29)
  | psmul (d : Fin 16) (a : Fin 8) (b : Fin 16)
  | pbmul (d : Fin 16) (a : Fin 8)
  | pvdsbm (d : Fin 16) (a : Fin 8) (b : Fin 16) (c : Fin 8)
  | pmsm (d : Fin 16) (a : Fin 8) (b : Fin 16) (n : Nat)
  | pvmsm (d : Fin 16) (a : Fin 8) (b : Fin 16) (n : Nat)
  deriving DecidableEq, Repr

/-! The pseudo-instructions (R104): each is the list of commands it expands to. -/

namespace Pseudo

/-- `FZERO Fd` is `FLDC Fd, #0`. -/
def fzero (d : Fin 32) : List Instr := [.fldc d .zero]

/-- `FONE Fd` is `FLDC Fd, #1`. -/
def fone (d : Fin 32) : List Instr := [.fldc d .one]

/-- `KCLR Kd` is `KSET Kd, #0`. -/
def kclr (d : Fin 8) : List Instr := [.kset d false]

/-- `FABS Fd, Fa, Kt` is `FISNEG Kt, Fa` then `FCNEG Fd, Fa, Kt`. -/
def fabs (d a : Fin 32) (t : Fin 8) : List Instr := [.fisneg t a, .fcneg d a t]

/-- `PDBL Pd, Pa` is `PADD Pd, Pa, Pa`. -/
def pdbl (d a : Fin 16) : List Instr := [.padd d a a]

end Pseudo

end Sys2Proof
end

