-- ==== Sys2Proof/WellFormed.lean ====
section
/-! DEFINITION. Which commands with operands a legal word can stand for (30_encoding.md R92, R95, R97, R102). Register numbers are in
range by their types; what is left are the immediates that are legal on part of their range and the register ranges of the
multi-scalar commands. -/

namespace Sys2Proof

/-- Kind SIMM (R95): the immediate digit of LTSELI, ATSELI, BTSELI lies in -8..8. -/
def legalDigit (x : Int) : Bool := decide (-8 ≤ x) && decide (x ≤ 8)

/-- Kind W (R95): the NAF width is 5 or 8. -/
def legalNafWidth (w : Nat) : Bool := w == 5 || w == 8

/-- Kinds ODD15 and ODD127 (R95): an odd multiple from 1 to `top`. -/
def legalOdd (top m : Nat) : Bool := m % 2 == 1 && decide (m ≤ top)

/-- Kind N with R102: `n <= 8`, `RB + n <= 8`, `RC + n <= 16`, so that every named register exists. -/
def legalPairs (a : Fin 8) (b : Fin 16) (n : Nat) : Bool :=
  decide (n ≤ Config.nMsm) && decide (a.val + n ≤ 8) && decide (b.val + n ≤ 16)

/-- A command with operands that some legal word encodes (R97). -/
def Instr.wellFormed : Instr → Bool
  | .ltseli _ _ x | .atseli _ _ x | .btseli _ _ x => legalDigit x
  | .snaf _ _ w => legalNafWidth w
  | .ntsel _ _ m => legalOdd 15 m
  | .bnsel _ m => legalOdd 127 m
  | .pmsm _ a b n | .pvmsm _ a b n => legalPairs a b n
  | .nop | .kset _ _ | .dgst _ _ _ | .xget _ _ => true
  | .fldc _ _ | .fmov _ _ | .fadd _ _ _ | .fsub _ _ _ | .fneg _ _ | .fmul _ _ _ | .fsqr _ _ | .fmul32 _ _ => true
  | .fcarry _ _ | .freduce _ _ | .finv _ _ | .fpow _ _ | .fsqrtr _ _ _ _ | .fisneg _ _ | .feq _ _ _ => true
  | .fsel _ _ _ _ | .fswap _ _ _ | .fcneg _ _ _ | .fsetb _ _ | .fgetb _ _ | .fldl _ _ | .fstl _ _ => true
  | .smov _ _ | .sadd _ _ _ | .ssub _ _ _ | .sneg _ _ | .smul _ _ _ | .sinv _ _ | .seq _ _ _ => true
  | .ssetc _ _ | .ssetu _ _ | .ssetcl _ _ | .sgetb _ _ | .srdx16 _ _ => true
  | .jfromp _ _ | .jfromc _ _ | .pfromc _ _ | .qfromp _ _ | .afromp _ _ => true
  | .cadd _ _ _ | .csub _ _ _ | .cadda _ _ _ | .csuba _ _ _ | .cdbl _ _ => true
  | .ltbuild _ _ | .ltsel _ _ _ _ | .atbuild _ _ | .atsel _ _ _ _ | .btsel _ _ _ _ | .ntbuild _ _ => true
  | .pident _ | .pgen _ | .pmov _ _ | .psetb _ _ | .pgetb _ _ | .pgetm _ _ | .padd _ _ _ | .psub _ _ _ => true
  | .pneg _ _ | .peq _ _ _ | .pmul8 _ _ | .pmull _ _ | .pext _ _ | .psetext _ _ => true
  | .psmul _ _ _ | .pbmul _ _ | .pvdsbm _ _ _ _ => true

end Sys2Proof
end

