-- ==== Sys2Proof/Decode.lean ====
section
/-! DEFINITION. The command word (30_encoding.md): its five fields (R91), the decoder, total on every word and rejecting by name
(R97, R98), after it the encoder written from the same table (R96), and the assembler's spelling of a command (R103). -/

namespace Sys2Proof

/-- Why a word is not a command (R97, R330). The block reports each of them as IllegalCommand. -/
inductive Illegal where
  /-- `w[31:24]` is no OPC of R96 (R97 a). -/
  | unassignedOpcode
  /-- A register field, or XGET's class, is outside its file (R92, R97 b, R102). -/
  | registerOutOfRange
  /-- A field the command does not use is not zero (R93, R97 c). -/
  | unusedFieldNotZero
  /-- IMM is not a legal value of its kind (R95, R97 c d). -/
  | illegalImmediate
  /-- A multi-scalar command's range of registers runs off its file (R102, R97 e). -/
  | rangeOffFile
  deriving DecidableEq, Repr

/-- The five fields of format W (R91), unsigned. -/
structure Fields where
  opc : Nat
  ra : Nat := 0
  rb : Nat := 0
  rc : Nat := 0
  imm : Nat := 0
  deriving DecidableEq, Repr

/-- `OPC = w[31:24]`, `RA = w[23:19]`, `RB = w[18:14]`, `RC = w[13:9]`, `IMM = w[8:0]` (R91). -/
def fieldsOf (w : Word32) : Fields where
  opc := (w.extractLsb 31 24).toNat
  ra := (w.extractLsb 23 19).toNat
  rb := (w.extractLsb 18 14).toNat
  rc := (w.extractLsb 13 9).toNat
  imm := (w.extractLsb 8 0).toNat

/-- A register field that indexes a file of `n` registers is legal only below `n` (R92). -/
def regField (n v : Nat) : Except Illegal (Fin n) :=
  if h : v < n then .ok ⟨v, h⟩ else .error .registerOutOfRange

/-- An immediate whose legal values are `0 .. n-1` (R95). -/
def immField (n v : Nat) : Except Illegal (Fin n) :=
  if h : v < n then .ok ⟨v, h⟩ else .error .illegalImmediate

/-- A field the command does not use must be zero (R93). -/
def unused (v : Nat) : Except Illegal Unit :=
  if v = 0 then .ok () else .error .unusedFieldNotZero

/-- A condition of R95 or R102 on a legal word. -/
def require (ok : Bool) (why : Illegal) : Except Illegal Unit :=
  if ok then .ok () else .error why

/-- `sext(IMM)` of a 9-bit immediate (R95). -/
def sextImm (imm : Nat) : Int :=
  if imm < 256 then (imm : Int) else (imm : Int) - 512

/-- The 9-bit two's complement of an immediate digit. -/
def digitImm (x : Int) : Nat := (x % 512).toNat

/-! The shapes rows of R96 share: which of RA, RB, RC carry a register, the rest being zero. -/

/-- RA only. -/
def shapeA (na : Nat) (mk : Fin na → Instr) (f : Fields) : Except Illegal Instr := do
  let a ← regField na f.ra
  unused f.rb
  unused f.rc
  unused f.imm
  return mk a

/-- RA and RB. -/
def shapeAB (na nb : Nat) (mk : Fin na → Fin nb → Instr) (f : Fields) : Except Illegal Instr := do
  let a ← regField na f.ra
  let b ← regField nb f.rb
  unused f.rc
  unused f.imm
  return mk a b

/-- RA, RB and RC. -/
def shapeABC (na nb nc : Nat) (mk : Fin na → Fin nb → Fin nc → Instr) (f : Fields) : Except Illegal Instr := do
  let a ← regField na f.ra
  let b ← regField nb f.rb
  let c ← regField nc f.rc
  unused f.imm
  return mk a b c

/-- RA, RB and an immediate below `ni`. -/
def shapeABI (na nb ni : Nat) (mk : Fin na → Fin nb → Fin ni → Instr) (f : Fields) : Except Illegal Instr := do
  let a ← regField na f.ra
  let b ← regField nb f.rb
  unused f.rc
  let i ← immField ni f.imm
  return mk a b i

/-- RA, RB, RC and an immediate below `ni`. -/
def shapeABCI (na nb nc ni : Nat) (mk : Fin na → Fin nb → Fin nc → Fin ni → Instr) (f : Fields) :
    Except Illegal Instr := do
  let a ← regField na f.ra
  let b ← regField nb f.rb
  let c ← regField nc f.rc
  let i ← immField ni f.imm
  return mk a b c i

/-- RA, RB and a signed immediate digit (kind SIMM, R95). -/
def shapeABDigit (na nb : Nat) (mk : Fin na → Fin nb → Int → Instr) (f : Fields) : Except Illegal Instr := do
  let a ← regField na f.ra
  let b ← regField nb f.rb
  unused f.rc
  require (legalDigit (sextImm f.imm)) .illegalImmediate
  return mk a b (sextImm f.imm)

/-- PMSM and PVMSM: RA, RB, RC and a pair count with the conditions of R102. -/
def shapePairs (mk : Fin 16 → Fin 8 → Fin 16 → Nat → Instr) (f : Fields) : Except Illegal Instr := do
  let d ← regField 16 f.ra
  let a ← regField 8 f.rb
  let b ← regField 16 f.rc
  require (decide (f.imm ≤ Config.nMsm)) .illegalImmediate
  require (legalPairs a b f.imm) .rangeOffFile
  return mk d a b f.imm

/-- XGET's class, register and component fields (R102). -/
def componentField (cls reg comp : Nat) : Except Illegal Component :=
  match cls with
  | 0 => do let r ← regField 16 reg; let c ← immField 4 comp; return .ofP r c
  | 1 => do let r ← regField 4 reg; let c ← immField 3 comp; return .ofJ r c
  | 2 => do let r ← regField 4 reg; let c ← immField 4 comp; return .ofC r c
  | 3 => do let r ← regField 8 reg; let c ← immField 4 comp; return .ofQ r c
  | 4 => do let r ← regField 8 reg; let c ← immField 3 comp; return .ofA r c
  | _ => .error .registerOutOfRange

/-- XGET: RA the destination, RB, RC, IMM the source. -/
def shapeXget (f : Fields) : Except Illegal Instr := do
  let d ← regField 32 f.ra
  let src ← componentField f.rb f.rc f.imm
  return .xget d src

/-- FLDC's constant selector (R95 kind CONST). -/
def constField (imm : Nat) : Except Illegal FieldConst :=
  match imm with
  | 0 => .ok .zero
  | 1 => .ok .one
  | 2 => .ok .d
  | 3 => .ok .d2
  | 4 => .ok .sqrtm1
  | _ => .error .illegalImmediate

/-- FLDC: RA and the constant selector. -/
def shapeFldc (f : Fields) : Except Illegal Instr := do
  let d ← regField 32 f.ra
  unused f.rb
  unused f.rc
  let c ← constField f.imm
  return .fldc d c

/-- KSET: RA and the bit (R95 kind BIT). -/
def shapeKset (f : Fields) : Except Illegal Instr := do
  let d ← regField 8 f.ra
  unused f.rb
  unused f.rc
  let bit ← immField 2 f.imm
  return .kset d (bit.val == 1)

/-- NOP: every field zero. -/
def shapeNop (f : Fields) : Except Illegal Instr := do
  unused f.ra
  unused f.rb
  unused f.rc
  unused f.imm
  return .nop

/-- SNAF: RA, RB and the width (R95 kind W). -/
def shapeSnaf (f : Fields) : Except Illegal Instr := do
  let g ← regField 8 f.ra
  let a ← regField 8 f.rb
  unused f.rc
  require (legalNafWidth f.imm) .illegalImmediate
  return .snaf g a f.imm

/-- NTSEL: RA, RB and an odd multiple up to 15. -/
def shapeNtsel (f : Fields) : Except Illegal Instr := do
  let d ← regField 8 f.ra
  let a ← regField 8 f.rb
  unused f.rc
  require (legalOdd 15 f.imm) .illegalImmediate
  return .ntsel d a f.imm

/-- BNSEL: RA and an odd multiple up to 127. -/
def shapeBnsel (f : Fields) : Except Illegal Instr := do
  let d ← regField 8 f.ra
  unused f.rb
  unused f.rc
  require (legalOdd 127 f.imm) .illegalImmediate
  return .bnsel d f.imm

/-- The rows of R96: the OPC selects the command and the ranges of its fields. -/
def decodeFields (f : Fields) : Except Illegal Instr :=
  match f.opc with
  | 0x00 => shapeNop f
  | 0x01 => shapeKset f
  | 0x03 => shapeABI 4 8 4 .dgst f
  | 0x04 => shapeXget f
  | 0x10 => shapeFldc f
  | 0x11 => shapeAB 32 32 .fmov f
  | 0x12 => shapeABC 32 32 32 .fadd f
  | 0x13 => shapeABC 32 32 32 .fsub f
  | 0x14 => shapeAB 32 32 .fneg f
  | 0x15 => shapeABC 32 32 32 .fmul f
  | 0x16 => shapeAB 32 32 .fsqr f
  | 0x17 => shapeAB 32 32 .fmul32 f
  | 0x18 => shapeAB 32 32 .fcarry f
  | 0x19 => shapeAB 32 32 .freduce f
  | 0x1A => shapeAB 32 32 .finv f
  | 0x1B => shapeAB 32 32 .fpow f
  | 0x1C => shapeABCI 32 32 32 8 (fun d u v k => .fsqrtr d k u v) f
  | 0x1D => shapeAB 8 32 .fisneg f
  | 0x1E => shapeABC 8 32 32 .feq f
  | 0x1F => shapeABCI 32 32 32 8 .fsel f
  | 0x20 => shapeABI 32 32 8 .fswap f
  | 0x21 => shapeABI 32 32 8 .fcneg f
  | 0x24 => shapeAB 32 4 .fsetb f
  | 0x25 => shapeAB 4 32 .fgetb f
  | 0x26 => shapeAB 32 4 .fldl f
  | 0x27 => shapeAB 4 32 .fstl f
  | 0x30 => shapeAB 8 8 .smov f
  | 0x31 => shapeABC 8 8 8 .sadd f
  | 0x32 => shapeABC 8 8 8 .ssub f
  | 0x33 => shapeAB 8 8 .sneg f
  | 0x34 => shapeABC 8 8 8 .smul f
  | 0x35 => shapeAB 8 8 .sinv f
  | 0x36 => shapeABC 8 8 8 .seq f
  | 0x37 => shapeAB 8 4 .ssetc f
  | 0x38 => shapeAB 8 4 .ssetu f
  | 0x39 => shapeAB 8 4 .ssetcl f
  | 0x3A => shapeAB 4 8 .sgetb f
  | 0x3B => shapeAB 8 8 .srdx16 f
  | 0x3C => shapeSnaf f
  | 0x40 => shapeAB 4 16 .jfromp f
  | 0x41 => shapeAB 4 4 .jfromc f
  | 0x42 => shapeAB 16 4 .pfromc f
  | 0x43 => shapeAB 8 16 .qfromp f
  | 0x44 => shapeAB 8 16 .afromp f
  | 0x45 => shapeABC 4 16 8 .cadd f
  | 0x46 => shapeABC 4 16 8 .csub f
  | 0x47 => shapeABC 4 16 8 .cadda f
  | 0x48 => shapeABC 4 16 8 .csuba f
  | 0x49 => shapeAB 4 4 .cdbl f
  | 0x50 => shapeAB 8 16 .ltbuild f
  | 0x51 => shapeABCI 8 8 8 256 .ltsel f
  | 0x52 => shapeABDigit 8 8 .ltseli f
  | 0x53 => shapeAB 2 16 .atbuild f
  | 0x54 => shapeABCI 8 2 8 256 .atsel f
  | 0x55 => shapeABDigit 8 2 .atseli f
  | 0x56 => shapeABCI 8 32 8 256 .btsel f
  | 0x57 => shapeABDigit 8 32 .btseli f
  | 0x58 => shapeAB 8 16 .ntbuild f
  | 0x59 => shapeNtsel f
  | 0x5A => shapeBnsel f
  | 0x60 => shapeA 16 .pident f
  | 0x61 => shapeA 16 .pgen f
  | 0x62 => shapeAB 16 16 .pmov f
  | 0x63 => shapeAB 16 4 .psetb f
  | 0x64 => shapeAB 4 16 .pgetb f
  | 0x65 => shapeAB 4 16 .pgetm f
  | 0x66 => shapeABC 16 16 16 .padd f
  | 0x67 => shapeABC 16 16 16 .psub f
  | 0x68 => shapeAB 16 16 .pneg f
  | 0x69 => shapeABC 8 16 16 .peq f
  | 0x6A => shapeAB 16 16 .pmul8 f
  | 0x6B => shapeAB 16 16 .pmull f
  | 0x6C => shapeAB 29 16 .pext f
  | 0x6D => shapeAB 16 29 .psetext f
  | 0x70 => shapeABC 16 8 16 .psmul f
  | 0x71 => shapeAB 16 8 .pbmul f
  | 0x72 => shapeABCI 16 8 16 8 .pvdsbm f
  | 0x73 => shapePairs .pmsm f
  | 0x74 => shapePairs .pvmsm f
  | _ => .error .unassignedOpcode

/-- `decode : u32 → Command | Illegal` (R98), total; the meaning of a word depends on the word alone (R90). -/
def decode (w : Word32) : Except Illegal Instr := decodeFields (fieldsOf w)

/-- The word of five fields (R91), each in range. -/
def packFields (f : Fields) : Word32 :=
  BitVec.ofNat 32 (f.opc * 2 ^ 24 + f.ra * 2 ^ 19 + f.rb * 2 ^ 14 + f.rc * 2 ^ 9 + f.imm)

/-- The selector of an FLDC constant (R95). -/
def constImm : FieldConst → Nat
  | .zero => 0
  | .one => 1
  | .d => 2
  | .d2 => 3
  | .sqrtm1 => 4

/-- The fields of a command, by its row of R96. -/
def encodeFields : Instr → Fields
  | .nop => { opc := 0x00 }
  | .kset d bit => { opc := 0x01, ra := d, imm := bit.toNat }
  | .dgst n a blk => { opc := 0x03, ra := n, rb := a, imm := blk }
  | .xget d (.ofP r c) => { opc := 0x04, ra := d, rb := 0, rc := r, imm := c }
  | .xget d (.ofJ r c) => { opc := 0x04, ra := d, rb := 1, rc := r, imm := c }
  | .xget d (.ofC r c) => { opc := 0x04, ra := d, rb := 2, rc := r, imm := c }
  | .xget d (.ofQ r c) => { opc := 0x04, ra := d, rb := 3, rc := r, imm := c }
  | .xget d (.ofA r c) => { opc := 0x04, ra := d, rb := 4, rc := r, imm := c }
  | .fldc d c => { opc := 0x10, ra := d, imm := constImm c }
  | .fmov d a => { opc := 0x11, ra := d, rb := a }
  | .fadd d a b => { opc := 0x12, ra := d, rb := a, rc := b }
  | .fsub d a b => { opc := 0x13, ra := d, rb := a, rc := b }
  | .fneg d a => { opc := 0x14, ra := d, rb := a }
  | .fmul d a b => { opc := 0x15, ra := d, rb := a, rc := b }
  | .fsqr d a => { opc := 0x16, ra := d, rb := a }
  | .fmul32 d a => { opc := 0x17, ra := d, rb := a }
  | .fcarry d a => { opc := 0x18, ra := d, rb := a }
  | .freduce d a => { opc := 0x19, ra := d, rb := a }
  | .finv d a => { opc := 0x1A, ra := d, rb := a }
  | .fpow d a => { opc := 0x1B, ra := d, rb := a }
  | .fsqrtr d k u v => { opc := 0x1C, ra := d, rb := u, rc := v, imm := k }
  | .fisneg k a => { opc := 0x1D, ra := k, rb := a }
  | .feq k a b => { opc := 0x1E, ra := k, rb := a, rc := b }
  | .fsel d a b c => { opc := 0x1F, ra := d, rb := a, rc := b, imm := c }
  | .fswap a b c => { opc := 0x20, ra := a, rb := b, imm := c }
  | .fcneg d a c => { opc := 0x21, ra := d, rb := a, imm := c }
  | .fsetb d n => { opc := 0x24, ra := d, rb := n }
  | .fgetb n a => { opc := 0x25, ra := n, rb := a }
  | .fldl d n => { opc := 0x26, ra := d, rb := n }
  | .fstl n a => { opc := 0x27, ra := n, rb := a }
  | .smov d a => { opc := 0x30, ra := d, rb := a }
  | .sadd d a b => { opc := 0x31, ra := d, rb := a, rc := b }
  | .ssub d a b => { opc := 0x32, ra := d, rb := a, rc := b }
  | .sneg d a => { opc := 0x33, ra := d, rb := a }
  | .smul d a b => { opc := 0x34, ra := d, rb := a, rc := b }
  | .sinv d a => { opc := 0x35, ra := d, rb := a }
  | .seq k a b => { opc := 0x36, ra := k, rb := a, rc := b }
  | .ssetc d n => { opc := 0x37, ra := d, rb := n }
  | .ssetu d n => { opc := 0x38, ra := d, rb := n }
  | .ssetcl d n => { opc := 0x39, ra := d, rb := n }
  | .sgetb n a => { opc := 0x3A, ra := n, rb := a }
  | .srdx16 g a => { opc := 0x3B, ra := g, rb := a }
  | .snaf g a w => { opc := 0x3C, ra := g, rb := a, imm := w }
  | .jfromp d a => { opc := 0x40, ra := d, rb := a }
  | .jfromc d a => { opc := 0x41, ra := d, rb := a }
  | .pfromc d a => { opc := 0x42, ra := d, rb := a }
  | .qfromp d a => { opc := 0x43, ra := d, rb := a }
  | .afromp d a => { opc := 0x44, ra := d, rb := a }
  | .cadd d a b => { opc := 0x45, ra := d, rb := a, rc := b }
  | .csub d a b => { opc := 0x46, ra := d, rb := a, rc := b }
  | .cadda d a b => { opc := 0x47, ra := d, rb := a, rc := b }
  | .csuba d a b => { opc := 0x48, ra := d, rb := a, rc := b }
  | .cdbl d a => { opc := 0x49, ra := d, rb := a }
  | .ltbuild d a => { opc := 0x50, ra := d, rb := a }
  | .ltsel d a b i => { opc := 0x51, ra := d, rb := a, rc := b, imm := i }
  | .ltseli d a x => { opc := 0x52, ra := d, rb := a, imm := digitImm x }
  | .atbuild d a => { opc := 0x53, ra := d, rb := a }
  | .atsel d a b i => { opc := 0x54, ra := d, rb := a, rc := b, imm := i }
  | .atseli d a x => { opc := 0x55, ra := d, rb := a, imm := digitImm x }
  | .btsel d r b i => { opc := 0x56, ra := d, rb := r, rc := b, imm := i }
  | .btseli d r x => { opc := 0x57, ra := d, rb := r, imm := digitImm x }
  | .ntbuild d a => { opc := 0x58, ra := d, rb := a }
  | .ntsel d a m => { opc := 0x59, ra := d, rb := a, imm := m }
  | .bnsel d m => { opc := 0x5A, ra := d, imm := m }
  | .pident d => { opc := 0x60, ra := d }
  | .pgen d => { opc := 0x61, ra := d }
  | .pmov d a => { opc := 0x62, ra := d, rb := a }
  | .psetb d n => { opc := 0x63, ra := d, rb := n }
  | .pgetb n a => { opc := 0x64, ra := n, rb := a }
  | .pgetm n a => { opc := 0x65, ra := n, rb := a }
  | .padd d a b => { opc := 0x66, ra := d, rb := a, rc := b }
  | .psub d a b => { opc := 0x67, ra := d, rb := a, rc := b }
  | .pneg d a => { opc := 0x68, ra := d, rb := a }
  | .peq k a b => { opc := 0x69, ra := k, rb := a, rc := b }
  | .pmul8 d a => { opc := 0x6A, ra := d, rb := a }
  | .pmull d a => { opc := 0x6B, ra := d, rb := a }
  | .pext d a => { opc := 0x6C, ra := d, rb := a }
  | .psetext d a => { opc := 0x6D, ra := d, rb := a }
  | .psmul d a b => { opc := 0x70, ra := d, rb := a, rc := b }
  | .pbmul d a => { opc := 0x71, ra := d, rb := a }
  | .pvdsbm d a b c => { opc := 0x72, ra := d, rb := a, rc := b, imm := c }
  | .pmsm d a b n => { opc := 0x73, ra := d, rb := a, rc := b, imm := n }
  | .pvmsm d a b n => { opc := 0x74, ra := d, rb := a, rc := b, imm := n }

/-- The word of a command (R91, R96). -/
def encode (i : Instr) : Word32 := packFields (encodeFields i)

/-- What the decoder reads from an instruction of `nbits` bits `w`, every bit above `nbits` being 0: a command is one 32-bit word
whose bit 0 is the least significant bit (R90, R91). -/
def decodeTableWord (nbits w : Nat) : Option Instr :=
  match decode (BitVec.ofNat 32 (w % 2 ^ nbits)) with
  | .ok i => some i
  | .error _ => none

/-! The assembler's spelling (R103): the mnemonic, then the operands, destination first. -/

/-- A register operand: the file's letters and a decimal index. -/
def asmReg (file : String) (i : Nat) : String := file ++ toString i

/-- A numeric immediate: `#` and a decimal integer. -/
def asmImm (x : Int) : String := "#" ++ toString x

/-- A mnemonic and its operands, separated by commas. -/
def asmLine (mnemonic : String) (ops : List String) : String :=
  if ops.isEmpty then mnemonic else mnemonic ++ " " ++ String.intercalate ", " ops

/-- XGET's class, register and component operands. -/
def asmComponent : Component → List String
  | .ofP r c => ["P", asmReg "P" r, asmImm c]
  | .ofJ r c => ["J", asmReg "J" r, asmImm c]
  | .ofC r c => ["C", asmReg "C" r, asmImm c]
  | .ofQ r c => ["Q", asmReg "Q" r, asmImm c]
  | .ofA r c => ["A", asmReg "A" r, asmImm c]

/-- A command in the assembler syntax of R103. -/
def Instr.asm : Instr → String
  | .nop => asmLine "NOP" []
  | .kset d bit => asmLine "KSET" [asmReg "K" d, asmImm bit.toNat]
  | .dgst n a blk => asmLine "DGST" [asmReg "IO" n, asmReg "DG" a, asmImm blk]
  | .xget d src => asmLine "XGET" (asmReg "F" d :: asmComponent src)
  | .fldc d c => asmLine "FLDC" [asmReg "F" d, asmImm (constImm c)]
  | .fmov d a => asmLine "FMOV" [asmReg "F" d, asmReg "F" a]
  | .fadd d a b => asmLine "FADD" [asmReg "F" d, asmReg "F" a, asmReg "F" b]
  | .fsub d a b => asmLine "FSUB" [asmReg "F" d, asmReg "F" a, asmReg "F" b]
  | .fneg d a => asmLine "FNEG" [asmReg "F" d, asmReg "F" a]
  | .fmul d a b => asmLine "FMUL" [asmReg "F" d, asmReg "F" a, asmReg "F" b]
  | .fsqr d a => asmLine "FSQR" [asmReg "F" d, asmReg "F" a]
  | .fmul32 d a => asmLine "FMUL32" [asmReg "F" d, asmReg "F" a]
  | .fcarry d a => asmLine "FCARRY" [asmReg "F" d, asmReg "F" a]
  | .freduce d a => asmLine "FREDUCE" [asmReg "F" d, asmReg "F" a]
  | .finv d a => asmLine "FINV" [asmReg "F" d, asmReg "F" a]
  | .fpow d a => asmLine "FPOW" [asmReg "F" d, asmReg "F" a]
  | .fsqrtr d k u v => asmLine "FSQRTR" [asmReg "F" d, asmReg "K" k, asmReg "F" u, asmReg "F" v]
  | .fisneg k a => asmLine "FISNEG" [asmReg "K" k, asmReg "F" a]
  | .feq k a b => asmLine "FEQ" [asmReg "K" k, asmReg "F" a, asmReg "F" b]
  | .fsel d a b c => asmLine "FSEL" [asmReg "F" d, asmReg "F" a, asmReg "F" b, asmReg "K" c]
  | .fswap a b c => asmLine "FSWAP" [asmReg "F" a, asmReg "F" b, asmReg "K" c]
  | .fcneg d a c => asmLine "FCNEG" [asmReg "F" d, asmReg "F" a, asmReg "K" c]
  | .fsetb d n => asmLine "FSETB" [asmReg "F" d, asmReg "IO" n]
  | .fgetb n a => asmLine "FGETB" [asmReg "IO" n, asmReg "F" a]
  | .fldl d n => asmLine "FLDL" [asmReg "F" d, asmReg "IO" n]
  | .fstl n a => asmLine "FSTL" [asmReg "IO" n, asmReg "F" a]
  | .smov d a => asmLine "SMOV" [asmReg "S" d, asmReg "S" a]
  | .sadd d a b => asmLine "SADD" [asmReg "S" d, asmReg "S" a, asmReg "S" b]
  | .ssub d a b => asmLine "SSUB" [asmReg "S" d, asmReg "S" a, asmReg "S" b]
  | .sneg d a => asmLine "SNEG" [asmReg "S" d, asmReg "S" a]
  | .smul d a b => asmLine "SMUL" [asmReg "S" d, asmReg "S" a, asmReg "S" b]
  | .sinv d a => asmLine "SINV" [asmReg "S" d, asmReg "S" a]
  | .seq k a b => asmLine "SEQ" [asmReg "K" k, asmReg "S" a, asmReg "S" b]
  | .ssetc d n => asmLine "SSETC" [asmReg "S" d, asmReg "IO" n]
  | .ssetu d n => asmLine "SSETU" [asmReg "S" d, asmReg "IO" n]
  | .ssetcl d n => asmLine "SSETCL" [asmReg "S" d, asmReg "IO" n]
  | .sgetb n a => asmLine "SGETB" [asmReg "IO" n, asmReg "S" a]
  | .srdx16 g a => asmLine "SRDX16" [asmReg "DG" g, asmReg "S" a]
  | .snaf g a w => asmLine "SNAF" [asmReg "DG" g, asmReg "S" a, asmImm w]
  | .jfromp d a => asmLine "JFROMP" [asmReg "J" d, asmReg "P" a]
  | .jfromc d a => asmLine "JFROMC" [asmReg "J" d, asmReg "C" a]
  | .pfromc d a => asmLine "PFROMC" [asmReg "P" d, asmReg "C" a]
  | .qfromp d a => asmLine "QFROMP" [asmReg "Q" d, asmReg "P" a]
  | .afromp d a => asmLine "AFROMP" [asmReg "A" d, asmReg "P" a]
  | .cadd d a b => asmLine "CADD" [asmReg "C" d, asmReg "P" a, asmReg "Q" b]
  | .csub d a b => asmLine "CSUB" [asmReg "C" d, asmReg "P" a, asmReg "Q" b]
  | .cadda d a b => asmLine "CADDA" [asmReg "C" d, asmReg "P" a, asmReg "A" b]
  | .csuba d a b => asmLine "CSUBA" [asmReg "C" d, asmReg "P" a, asmReg "A" b]
  | .cdbl d a => asmLine "CDBL" [asmReg "C" d, asmReg "J" a]
  | .ltbuild d a => asmLine "LTBUILD" [asmReg "LT" d, asmReg "P" a]
  | .ltsel d a b i => asmLine "LTSEL" [asmReg "Q" d, asmReg "LT" a, asmReg "DG" b, asmImm i]
  | .ltseli d a x => asmLine "LTSELI" [asmReg "Q" d, asmReg "LT" a, asmImm x]
  | .atbuild d a => asmLine "ATBUILD" [asmReg "AT" d, asmReg "P" a]
  | .atsel d a b i => asmLine "ATSEL" [asmReg "A" d, asmReg "AT" a, asmReg "DG" b, asmImm i]
  | .atseli d a x => asmLine "ATSELI" [asmReg "A" d, asmReg "AT" a, asmImm x]
  | .btsel d r b i => asmLine "BTSEL" [asmReg "A" d, asmImm r, asmReg "DG" b, asmImm i]
  | .btseli d r x => asmLine "BTSELI" [asmReg "A" d, asmImm r, asmImm x]
  | .ntbuild d a => asmLine "NTBUILD" [asmReg "NT" d, asmReg "P" a]
  | .ntsel d a m => asmLine "NTSEL" [asmReg "Q" d, asmReg "NT" a, asmImm m]
  | .bnsel d m => asmLine "BNSEL" [asmReg "A" d, asmImm m]
  | .pident d => asmLine "PIDENT" [asmReg "P" d]
  | .pgen d => asmLine "PGEN" [asmReg "P" d]
  | .pmov d a => asmLine "PMOV" [asmReg "P" d, asmReg "P" a]
  | .psetb d n => asmLine "PSETB" [asmReg "P" d, asmReg "IO" n]
  | .pgetb n a => asmLine "PGETB" [asmReg "IO" n, asmReg "P" a]
  | .pgetm n a => asmLine "PGETM" [asmReg "IO" n, asmReg "P" a]
  | .padd d a b => asmLine "PADD" [asmReg "P" d, asmReg "P" a, asmReg "P" b]
  | .psub d a b => asmLine "PSUB" [asmReg "P" d, asmReg "P" a, asmReg "P" b]
  | .pneg d a => asmLine "PNEG" [asmReg "P" d, asmReg "P" a]
  | .peq k a b => asmLine "PEQ" [asmReg "K" k, asmReg "P" a, asmReg "P" b]
  | .pmul8 d a => asmLine "PMUL8" [asmReg "P" d, asmReg "P" a]
  | .pmull d a => asmLine "PMULL" [asmReg "P" d, asmReg "P" a]
  | .pext d a => asmLine "PEXT" [asmReg "F" d, asmReg "P" a]
  | .psetext d a => asmLine "PSETEXT" [asmReg "P" d, asmReg "F" a]
  | .psmul d a b => asmLine "PSMUL" [asmReg "P" d, asmReg "S" a, asmReg "P" b]
  | .pbmul d a => asmLine "PBMUL" [asmReg "P" d, asmReg "S" a]
  | .pvdsbm d a b c => asmLine "PVDSBM" [asmReg "P" d, asmReg "S" a, asmReg "P" b, asmReg "S" c]
  | .pmsm d a b n => asmLine "PMSM" [asmReg "P" d, asmReg "S" a, asmReg "P" b, asmImm n]
  | .pvmsm d a b n => asmLine "PVMSM" [asmReg "P" d, asmReg "S" a, asmReg "P" b, asmImm n]

end Sys2Proof
end

