-- ==== Sys2Proof/Machine/State.lean ====
section
/-! DEFINITION. The architectural state (10_state.md), plain data, under the spec's own register names, and its reset values (R51).
What each field's reset value is and which rule names it stands in INVENTORY.md, section State. -/

namespace Sys2Proof.Machine

/-! The value types (00_scope.md R11, 42_coords.md R200). -/

/-- A limb vector: five u64, `val = l0 + l1·2^51 + l2·2^102 + l3·2^153 + l4·2^204` (R11). -/
structure Limbs where
  l0 : U64
  l1 : U64
  l2 : U64
  l3 : U64
  l4 : U64
  deriving DecidableEq, Repr

/-- P3 (extended): `x = X/Z`, `y = Y/Z`, `x*y = T/Z` (R200). -/
structure P3 where
  X : Limbs
  Y : Limbs
  Z : Limbs
  T : Limbs
  deriving DecidableEq, Repr

/-- P2 (projective): `x = X/Z`, `y = Y/Z` (R200). -/
structure P2 where
  X : Limbs
  Y : Limbs
  Z : Limbs
  deriving DecidableEq, Repr

/-- P1xP1 (completed): `x = X/Z`, `y = Y/T` (R200). -/
structure P1xP1 where
  X : Limbs
  Y : Limbs
  Z : Limbs
  T : Limbs
  deriving DecidableEq, Repr

/-- projCached: `(Y+X, Y−X, Z, 2d·T)` of a P3 point (R200). -/
structure ProjCached where
  YpX : Limbs
  YmX : Limbs
  Z : Limbs
  T2d : Limbs
  deriving DecidableEq, Repr

/-- affineCached: `(y+x, y−x, 2d·x·y)` of an affine point (R200). -/
structure AffineCached where
  YpX : Limbs
  YmX : Limbs
  T2d : Limbs
  deriving DecidableEq, Repr

/-- A register with a tag (R30): `tag` is `init` in the files P, J, C, Q, A and `built` in the files LT, AT, NT. -/
structure Tagged (α : Type) where
  tag : Bool
  val : α
  deriving DecidableEq, Repr

/-- A table of eight projCached entries `e[0..7]` (R230). -/
abbrev ProjTable := Vector ProjCached 8

/-- A table of eight affineCached entries `e[0..7]` (R230). -/
abbrev AffineTable := Vector AffineCached 8

/-- The bytes of the IO buffers, each at its window offset (R62), in one canonical form: offsets strictly rising, and no entry
holding 0, which is what an unlisted byte reads as (the reset value R51 gives). -/
abbrev Memory := List Host.Cell

/-- What the host side does next (R22, R60): a window access of `bytes` bytes at byte offset `off`
(`MemRead`, `MemWrite` of R14 with `addr = BASE + off`), or the platform's hardware reset (R360). -/
inductive Access where
  | read (bytes off : Nat)
  | write (bytes off : Nat) (v : Word32)
  | hardReset
  deriving DecidableEq, Repr

/-- The state: the register files, buffers and control registers of 10_state.md, and the model's own host port. -/
structure State where
  /-- Field registers (R23). -/
  F : Vector Limbs 32
  /-- Scalar registers: the 256-bit image of the integer (R25). -/
  S : Vector (BitVec 256) 8
  /-- P3 point registers (R26). -/
  P : Vector (Tagged P3) 16
  /-- P2 registers (R27). -/
  J : Vector (Tagged P2) 4
  /-- P1xP1 registers (R28). -/
  C : Vector (Tagged P1xP1) 4
  /-- projCached registers (R29). -/
  Q : Vector (Tagged ProjCached) 8
  /-- affineCached registers (R29). -/
  A : Vector (Tagged AffineCached) 8
  /-- projLookupTable registers (R32). -/
  LT : Vector (Tagged ProjTable) 8
  /-- affineLookupTable registers (R33). -/
  AT : Vector (Tagged AffineTable) 2
  /-- Width-5 NAF table registers (R34). -/
  NT : Vector (Tagged ProjTable) 8
  /-- Digit registers: 256 signed digits each, in two's complement (R35). -/
  DG : Vector (Vector Byte 256) 8
  /-- Predicate registers (R37). -/
  K : Vector Bool 8
  /-- The data bytes of IO0..IO3 (R38, R62). -/
  IO : Memory
  /-- The lengths of IO0..IO3 (R38). -/
  IOLEN : Vector (BitVec 7) 4
  /-- FMUL32's multiplier (R45). -/
  ARG : Word32
  /-- The error code of the most recent command, bits 3:0 (R42). -/
  LASTERR : BitVec 4
  /-- The errors raised since they were last cleared, bits 10:1 (R43). -/
  ERRSTICKY : Word32
  /-- CMD writes since reset (R44). -/
  CMDCNT : Word32
  /-- The model's own: the host's accesses still to be performed, in order (R22, R70; log entry 1). -/
  pending : List Access
  /-- The model's own: what the last access returned to the host, a read's value (R22; log entry 2). -/
  answer : Option Word32
  deriving DecidableEq, Repr

/-- Reasons a step stops with a fault. -/
inductive Fault where
  /-- An access at an offset outside the 4096-byte window (R60): it does not reach the block.
  Raised by `Machine.access`; safe (the block's state is not claimed to change). -/
  | outsideWindow
  deriving DecidableEq, Repr

/-- Reasons a step gives no meaning. -/
inductive Refusal where
  /-- A command that has no meaning yet. Raised by an arm of `exec` only; safe. -/
  | notModelled (mnemonic : String)
  /-- An access that is not a naturally aligned 32-bit read or write, which "a model refuses" (R65, I10).
  Raised by `Machine.access`; safe. -/
  | unsupportedAccess
  deriving DecidableEq, Repr

/-- The zero limb vector, every limb's reset value (R51). -/
def Limbs.zero : Limbs := ⟨0, 0, 0, 0, 0⟩

/-- A tagged register after reset: limbs 0 and tag 0 (R30, R51). -/
def Tagged.empty {α : Type} (zero : α) : Tagged α := ⟨false, zero⟩

/-- The all-zero projCached value of an unwritten register. -/
def ProjCached.zero : ProjCached := ⟨.zero, .zero, .zero, .zero⟩

/-- The all-zero affineCached value of an unwritten register. -/
def AffineCached.zero : AffineCached := ⟨.zero, .zero, .zero⟩

/-- The machine right after reset (R51, R360): every value 0, every tag 0; no host access placed. -/
def State.reset : State where
  F := Vector.replicate 32 .zero
  S := Vector.replicate 8 0
  P := Vector.replicate 16 (.empty ⟨.zero, .zero, .zero, .zero⟩)
  J := Vector.replicate 4 (.empty ⟨.zero, .zero, .zero⟩)
  C := Vector.replicate 4 (.empty ⟨.zero, .zero, .zero, .zero⟩)
  Q := Vector.replicate 8 (.empty .zero)
  A := Vector.replicate 8 (.empty .zero)
  LT := Vector.replicate 8 (.empty (Vector.replicate 8 .zero))
  AT := Vector.replicate 2 (.empty (Vector.replicate 8 .zero))
  NT := Vector.replicate 8 (.empty (Vector.replicate 8 .zero))
  DG := Vector.replicate 8 (Vector.replicate 256 0)
  K := Vector.replicate 8 false
  IO := []
  IOLEN := Vector.replicate 4 0
  ARG := 0
  LASTERR := 0
  ERRSTICKY := 0
  CMDCNT := 0
  pending := []
  answer := none

end Sys2Proof.Machine
end

