-- ==== Sys2Proof/Machine/Ops.lean ====
section
/-! DEFINITION. The named operations over buffers and registers, and the one shared operation by which a command raises an error,
beside the one by which it completes (60_exceptions.md R321, R322). -/

namespace Sys2Proof.Machine

/-- What every command and every step answers. -/
abbrev Outcome := Host.Outcome State Fault Refusal

/-! ## Errors (R321, R322) -/

/-- The ten error kinds (R321). -/
inductive CmdError where
  | invalidFieldElementLength
  | invalidScalarLength
  | nonCanonicalScalar
  | invalidPointEncoding
  | uninitializedPoint
  /-- Reserved: no command raises it (R329). -/
  | lengthMismatch
  | illegalCommand
  | tableNotBuilt
  | invalidLimbImageLength
  | illegalDigit
  deriving DecidableEq, Repr

/-- The codes of R321; 0 is "no error". -/
def errorCode : CmdError → BitVec 4
  | .invalidFieldElementLength => 1
  | .invalidScalarLength => 2
  | .nonCanonicalScalar => 3
  | .invalidPointEncoding => 4
  | .uninitializedPoint => 5
  | .lengthMismatch => 6
  | .illegalCommand => 7
  | .tableNotBuilt => 8
  | .invalidLimbImageLength => 9
  | .illegalDigit => 10

/-- The ERRSTICKY bit of a code: `1 << c` (R322). -/
def stickyBit (c : BitVec 4) : Word32 := (1 : Word32) <<< c.toNat

/-- Taking a command error (R322): LASTERR gets the code, its ERRSTICKY bit is set, and nothing else changes. There is no trap,
nothing is saved and control goes nowhere (R320, R335). -/
def raise (e : CmdError) (s : State) : Outcome :=
  .next { s with LASTERR := errorCode e, ERRSTICKY := s.ERRSTICKY ||| stickyBit (errorCode e) }

/-- Completing a command (R322): its writes stand, `LASTERR <- 0`, ERRSTICKY unchanged. There is no return from an error to model
(R336): the next command just runs. -/
def complete (s : State) : Outcome := .next { s with LASTERR := 0 }

/-! ## Byte strings (R10) -/

/-- `LE(b)`: the little-endian integer of a byte string (R10). -/
def leNat : List Byte → Nat
  | [] => 0
  | b :: bs => b.toNat + 256 * leNat bs

/-- `bytesLE(v, n)` (R10). -/
def bytesLE (v : Nat) : Nat → List Byte
  | 0 => []
  | n + 1 => BitVec.ofNat 8 v :: bytesLE (v / 256) n

/-- A byte string cut or filled with zeros to `n` bytes. -/
def padTo (n : Nat) (b : List Byte) : List Byte := (b ++ List.replicate n 0).take n

/-! ## The buffers' bytes (R38, R62) -/

/-- The byte at window offset `a`; a byte nothing has written is 0 (R51). -/
def Memory.read : Memory → Nat → Byte
  | [], _ => 0
  | c :: rest, a => if c.1 = a then c.2 else Memory.read rest a

/-- A new cell put at its place in rising order. -/
def Memory.insert : Memory → Nat → Byte → Memory
  | [], a, v => [(a, v)]
  | c :: rest, a, v => if a < c.1 then (a, v) :: c :: rest else c :: Memory.insert rest a v

/-- The cells at other offsets than `a`. -/
def Memory.erase (m : Memory) (a : Nat) : Memory := m.filter (fun c => c.1 != a)

/-- Storing byte `v` at offset `a`, in the canonical form: a zero byte is not listed. -/
def Memory.write (m : Memory) (a : Nat) (v : Byte) : Memory :=
  if v = 0 then Memory.erase m a else Memory.insert (Memory.erase m a) a v

/-- Storing a byte string from offset `a` upward. -/
def Memory.writeBytes : Memory → Nat → List Byte → Memory
  | m, _, [] => m
  | m, a, b :: bs => Memory.writeBytes (Memory.write m a b) (a + 1) bs

/-- The `n` bytes from offset `a` upward. -/
def Memory.readBytes (m : Memory) (a : Nat) : Nat → List Byte
  | 0 => []
  | n + 1 => Memory.read m a :: Memory.readBytes m (a + 1) n

/-- Offset `off` is one of the 4 × 64 data bytes (R62): `0x100 + 0x80·n + k`, k = 0..63. -/
def isIoData (off : Nat) : Bool :=
  decide (0x100 ≤ off) && decide (off < 0x300) && decide ((off - 0x100) % 0x80 < 0x40)

/-- The canonical form of the buffers' bytes: offsets strictly rising, no listed zero, every offset a data byte's. -/
abbrev Memory.wf (m : Memory) : Prop :=
  m.Pairwise (fun c c' => c.1 < c'.1) ∧ ∀ c ∈ m, c.2 ≠ 0 ∧ isIoData c.1 = true

/-- The window offset of byte `IO[n][k]` (R62). -/
def ioOffset (n : Fin 4) (k : Nat) : Nat := 0x100 + 0x80 * n.val + k

/-- `IO[n][0..len-1]`. -/
def ioBytes (n : Fin 4) (len : Nat) (s : State) : List Byte := s.IO.readBytes (ioOffset n 0) len

/-- `IOWrite(n, b)` (R14, R67): the bytes from byte 0, every remaining byte of the 64 zero, and the length. -/
def ioWrite (n : Fin 4) (b : List Byte) (s : State) : State :=
  { s with
    IO := s.IO.writeBytes (ioOffset n 0) (padTo 64 b)
    IOLEN := s.IOLEN.set n (BitVec.ofNat 7 b.length) }

/-! ## Register writes (R14): a write to a tagged register sets its tag (R30) -/

/-- `F[d] <- v`. -/
def setF (d : Fin 32) (v : Limbs) (s : State) : State := { s with F := s.F.set d v }

/-- `S[d] <- v`, the value's 256-bit image (R25). -/
def setS (d : Fin 8) (v : Nat) (s : State) : State := { s with S := s.S.set d (BitVec.ofNat 256 v) }

/-- `P[d] <- v`. -/
def setP (d : Fin 16) (v : P3) (s : State) : State := { s with P := s.P.set d ⟨true, v⟩ }

/-- `J[d] <- v`. -/
def setJ (d : Fin 4) (v : P2) (s : State) : State := { s with J := s.J.set d ⟨true, v⟩ }

/-- `C[d] <- v`. -/
def setC (d : Fin 4) (v : P1xP1) (s : State) : State := { s with C := s.C.set d ⟨true, v⟩ }

/-- `Q[d] <- v`. -/
def setQ (d : Fin 8) (v : ProjCached) (s : State) : State := { s with Q := s.Q.set d ⟨true, v⟩ }

/-- `A[d] <- v`. -/
def setA (d : Fin 8) (v : AffineCached) (s : State) : State := { s with A := s.A.set d ⟨true, v⟩ }

/-- `LT[d] <- t`, built. -/
def setLT (d : Fin 8) (t : ProjTable) (s : State) : State := { s with LT := s.LT.set d ⟨true, t⟩ }

/-- `AT[d] <- t`, built. -/
def setAT (d : Fin 2) (t : AffineTable) (s : State) : State := { s with AT := s.AT.set d ⟨true, t⟩ }

/-- `NT[d] <- t`, built. -/
def setNT (d : Fin 8) (t : ProjTable) (s : State) : State := { s with NT := s.NT.set d ⟨true, t⟩ }

/-- A list of digits as a digit register's 256 positions; positions past the list hold 0. -/
def digitVector (l : List Int) : Vector Byte 256 := Vector.ofFn fun i => BitVec.ofInt 8 (l.getD i.val 0)

/-- `DG[d][0..255] <- l` (R189, R190). -/
def setDG (d : Fin 8) (l : List Int) (s : State) : State := { s with DG := s.DG.set d (digitVector l) }

/-- The integer an S register holds (R25). -/
def readS (a : Fin 8) (s : State) : Nat := s.S[a].toNat

end Sys2Proof.Machine
end

