-- ==== Sys2Proof/Machine/Flags.lean ====
section
/-! DEFINITION. The predicate registers, the only condition state (10_state.md R37): no command sets a flag as a side effect and there is
no carry, overflow, zero or sign flag. And the status words the window shows: STATUS, LASTERR, ERRSTICKY, KREG (R41 to R44). -/

namespace Sys2Proof.Machine

/-- `K[d] <- b` (R14). -/
def setK (d : Fin 8) (b : Bool) (s : State) : State := { s with K := s.K.set d b }

/-- STATUS (R41): bit 1 ERR is `LASTERR != 0`; bit 0 BUSY is hard-wired 0, as R41 lets a model; the rest read 0. -/
def statusWord (s : State) : Word32 := if s.LASTERR = 0 then 0 else 2

/-- LASTERR (R42): the code in bits 3:0, the rest read 0. -/
def lastErrWord (s : State) : Word32 := s.LASTERR.setWidth 32

/-- The bits of ERRSTICKY that exist: 10:1 (R43). -/
def stickyMask : Word32 := 0x7FE

/-- ERRSTICKY (R43): bit 0 and bits 31:11 read 0. -/
def errStickyWord (s : State) : Word32 := s.ERRSTICKY &&& stickyMask

/-- Write-one-to-clear (R43): a write clears the bits it has set and never sets one. -/
def clearSticky (v : Word32) (s : State) : State := { s with ERRSTICKY := s.ERRSTICKY &&& ~~~v }

/-- Bit `i` of KREG is `K[i]` (R44). -/
def kregBit (s : State) (i : Fin 8) : Word32 := if s.K[i] then (1 : Word32) <<< i.val else 0

/-- KREG (R44): bits 7:0 are K7..K0, the rest read 0. -/
def kregWord (s : State) : Word32 :=
  kregBit s 0 ||| kregBit s 1 ||| kregBit s 2 ||| kregBit s 3 ||| kregBit s 4 ||| kregBit s 5 ||| kregBit s 6 ||| kregBit s 7

end Sys2Proof.Machine
end

