-- ==== Sys2Proof/Machine/FieldArith.lean ====
section
/-! DEFINITION. The field unit's pure functions on limb vectors (40_field.md R122 to R139): total, deterministic and limb-exact, with
the wrap-around each rule states (R120). -/

namespace Sys2Proof.Machine

/-- `p = 2^255 − 19` (R16). -/
def fieldP : Nat := 2 ^ 255 - 19

/-- `MASK51 = 2^51 − 1` (R13). -/
def mask51 : U64 := 0x7FFFFFFFFFFFF

/-- `mask64(c) = 0 −_64 c` (R13): all ones for c = 1. -/
def mask64 (c : Bool) : U64 := 0 - (BitVec.ofBool c).setWidth 64

/-- The integer value of a limb vector (R11). -/
def val (l : Limbs) : Nat :=
  l.l0.toNat + l.l1.toNat * 2 ^ 51 + l.l2.toNat * 2 ^ 102 + l.l3.toNat * 2 ^ 153 + l.l4.toNat * 2 ^ 204

/-- Limb `i` of `limbs(v)`: `(v >> 51i) & MASK51` (R12). -/
def limbOf (v i : Nat) : U64 := BitVec.ofNat 64 (v / 2 ^ (51 * i) % 2 ^ 51)

/-- `limbs(v)` (R12): for `v < p` the canonical limb vector; for `v < 2^255` the 51-bit split of R133. -/
def limbs (v : Nat) : Limbs := ⟨limbOf v 0, limbOf v 1, limbOf v 2, limbOf v 3, limbOf v 4⟩

/-- The constants 0 and 1 (R47). -/
def feZero : Limbs := ⟨0, 0, 0, 0, 0⟩

/-- `FE_ONE` (R47). -/
def feOne : Limbs := ⟨1, 0, 0, 0, 0⟩

/-- `d` (R18). -/
def curveD : Nat := 0x52036cee2b6ffe738cc740797779e89800700a4d4141d8ab75eb4dca135978a3

/-- `2d mod p` (R18). -/
def curveD2 : Nat := 0x2406d9dc56dffce7198e80f2eef3d13000e0149a8283b156ebd69b9426b2f159

/-- `√−1 = 2^((p−1)/4) mod p` (R19). -/
def sqrtM1 : Nat := 0x2b8324804fc1df0b2b4d00993dfbd7a72f431806ad2fe478c4ee1b274a0ea0b0

/-- `FE_D` (R47). -/
def feD : Limbs := limbs curveD

/-- `FE_D2` (R47). -/
def feD2 : Limbs := limbs curveD2

/-- `FE_SQRTM1` (R47). -/
def feSqrtM1 : Limbs := limbs sqrtM1

/-- `fe_carry` (R122): the sequential carry pass. -/
def feCarry (l : Limbs) : Limbs :=
  let l1 := l.l1 + l.l0 >>> 51
  let l2 := l.l2 + l1 >>> 51
  let l3 := l.l3 + l2 >>> 51
  let l4 := l.l4 + l3 >>> 51
  ⟨(l.l0 &&& mask51) + (l4 >>> 51) * 19, l1 &&& mask51, l2 &&& mask51, l3 &&& mask51, l4 &&& mask51⟩

/-- `fe_add` (R123): limb-wise addition, then one carry pass. -/
def feAdd (a b : Limbs) : Limbs :=
  feCarry ⟨a.l0 + b.l0, a.l1 + b.l1, a.l2 + b.l2, a.l3 + b.l3, a.l4 + b.l4⟩

/-- `TWO_P` (R124, 90_conflicts.md C1): a limb vector of value `2p`. -/
def twoP : Limbs := ⟨0xFFFFFFFFFFFDA, 0xFFFFFFFFFFFFE, 0xFFFFFFFFFFFFE, 0xFFFFFFFFFFFFE, 0xFFFFFFFFFFFFE⟩

/-- `fe_sub` (R124): add `2p`, subtract limb-wise, then one carry pass. -/
def feSub (a b : Limbs) : Limbs :=
  feCarry ⟨a.l0 + twoP.l0 - b.l0, a.l1 + twoP.l1 - b.l1, a.l2 + twoP.l2 - b.l2, a.l3 + twoP.l3 - b.l3,
    a.l4 + twoP.l4 - b.l4⟩

/-- `fe_neg(a) = fe_sub(0, a)` (R125). -/
def feNeg (a : Limbs) : Limbs := feSub feZero a

/-- The high part `(r >> 51) mod 2^64` of a column (R126). -/
def foldHigh (r : U128) : U64 := (r >>> 51).setWidth 64

/-- The low part `r & MASK51` of a column (R126). -/
def foldLow (r : U128) : U64 := r.setWidth 64 &&& mask51

/-- `fe_fold` (R126): one parallel split-and-shift of the five columns, then `fe_carry`. -/
def feFold (r0 r1 r2 r3 r4 : U128) : Limbs :=
  feCarry ⟨foldLow r0 + 19 * foldHigh r4, foldLow r1 + foldHigh r0, foldLow r2 + foldHigh r1, foldLow r3 + foldHigh r2,
    foldLow r4 + foldHigh r3⟩

/-- A column sum in u128. Every product and sum of a column is taken modulo 2^128 (R127); taking them exactly and narrowing once
gives the same residue (log entry 12). -/
def column (n : Nat) : U128 := BitVec.ofNat 128 n

/-- `fe_mul` (R127): the schoolbook columns with `2^255 ≡ 19`. -/
def feMul (a b : Limbs) : Limbs :=
  let a0 := a.l0.toNat
  let a1 := a.l1.toNat
  let a2 := a.l2.toNat
  let a3 := a.l3.toNat
  let a4 := a.l4.toNat
  let b0 := b.l0.toNat
  let b1 := b.l1.toNat
  let b2 := b.l2.toNat
  let b3 := b.l3.toNat
  let b4 := b.l4.toNat
  feFold
    (column (a0 * b0 + 19 * (a1 * b4 + a2 * b3 + a3 * b2 + a4 * b1)))
    (column (a0 * b1 + a1 * b0 + 19 * (a2 * b4 + a3 * b3 + a4 * b2)))
    (column (a0 * b2 + a1 * b1 + a2 * b0 + 19 * (a3 * b4 + a4 * b3)))
    (column (a0 * b3 + a1 * b2 + a2 * b1 + a3 * b0 + 19 * (a4 * b4)))
    (column (a0 * b4 + a1 * b3 + a2 * b2 + a3 * b1 + a4 * b0))

/-- `fe_sqr` (R128): the same columns with doubled off-diagonal terms. -/
def feSqr (a : Limbs) : Limbs :=
  let a0 := a.l0.toNat
  let a1 := a.l1.toNat
  let a2 := a.l2.toNat
  let a3 := a.l3.toNat
  let a4 := a.l4.toNat
  feFold
    (column (a0 * a0 + 19 * (2 * a1 * a4 + 2 * a2 * a3)))
    (column (2 * a0 * a1 + 19 * (2 * a2 * a4 + a3 * a3)))
    (column (2 * a0 * a2 + a1 * a1 + 19 * (2 * a3 * a4)))
    (column (2 * a0 * a3 + 2 * a1 * a2 + 19 * (a4 * a4)))
    (column (2 * a0 * a4 + 2 * a1 * a3 + a2 * a2))

/-- `fe_mul32` (R129): five 64×32 products, split at bit 51 and folded once in parallel, with no carry pass. -/
def feMul32 (a : Limbs) (y : Word32) : Limbs :=
  let t0 := column (a.l0.toNat * y.toNat)
  let t1 := column (a.l1.toNat * y.toNat)
  let t2 := column (a.l2.toNat * y.toNat)
  let t3 := column (a.l3.toNat * y.toNat)
  let t4 := column (a.l4.toNat * y.toNat)
  ⟨foldLow t0 + 19 * foldHigh t4, foldLow t1 + foldHigh t0, foldLow t2 + foldHigh t1, foldLow t3 + foldHigh t2,
    foldLow t4 + foldHigh t3⟩

/-- One limb of `fe_sel` (R130). -/
def selLimb (m a b : U64) : U64 := (m &&& a) ||| (~~~m &&& b)

/-- `fe_sel(a, b, c)` (R130): `a` if c = 1, `b` if c = 0, limbs copied under a mask. -/
def feSel (a b : Limbs) (c : Bool) : Limbs :=
  let m := mask64 c
  ⟨selLimb m a.l0 b.l0, selLimb m a.l1 b.l1, selLimb m a.l2 b.l2, selLimb m a.l3 b.l3, selLimb m a.l4 b.l4⟩

/-- `t_i = m & (u_i ^ v_i)` of `fe_swap` (R130), for all limbs. -/
def swapMask (u v : Limbs) (c : Bool) : Limbs :=
  let m := mask64 c
  ⟨m &&& (u.l0 ^^^ v.l0), m &&& (u.l1 ^^^ v.l1), m &&& (u.l2 ^^^ v.l2), m &&& (u.l3 ^^^ v.l3), m &&& (u.l4 ^^^ v.l4)⟩

/-- Limb-wise exclusive or. -/
def feXor (u t : Limbs) : Limbs := ⟨u.l0 ^^^ t.l0, u.l1 ^^^ t.l1, u.l2 ^^^ t.l2, u.l3 ^^^ t.l3, u.l4 ^^^ t.l4⟩

/-- `fe_swap(u, v, c)` (R130): `(v, u)` if c = 1, `(u, v)` if c = 0. -/
def feSwap (u v : Limbs) (c : Bool) : Limbs × Limbs := (feXor u (swapMask u v c), feXor v (swapMask u v c))

/-- `fe_cneg(a, c)` (R130): `−a` if c = 1, `a` with its limbs untouched if c = 0. -/
def feCneg (a : Limbs) (c : Bool) : Limbs := feSel (feNeg a) a c

/-- `fe_reduce` (R131): the canonical limb vector. -/
def feReduce (l : Limbs) : Limbs :=
  let t := feCarry l
  let c := (t.l0 + 19) >>> 51
  let c := (t.l1 + c) >>> 51
  let c := (t.l2 + c) >>> 51
  let c := (t.l3 + c) >>> 51
  let c := (t.l4 + c) >>> 51
  let l0 := t.l0 + 19 * c
  let l1 := t.l1 + l0 >>> 51
  let l2 := t.l2 + l1 >>> 51
  let l3 := t.l3 + l2 >>> 51
  let l4 := t.l4 + l3 >>> 51
  ⟨l0 &&& mask51, l1 &&& mask51, l2 &&& mask51, l3 &&& mask51, l4 &&& mask51⟩

/-- `fe_bytes` (R132): the canonical 32-byte encoding. -/
def feBytes (l : Limbs) : List Byte := bytesLE (val (feReduce l)) 32

/-- `fe_setbytes` (R133): bit 255 ignored, five 51-bit limbs, no reduction. -/
def feSetBytes (b : List Byte) : Limbs := limbs (leNat b % 2 ^ 255)

/-- `fe_isneg` (R134): the low bit of the canonical encoding. -/
def feIsNeg (l : Limbs) : Bool := val (feReduce l) % 2 == 1

/-- `fe_eq` (R135): equality of the canonical encodings. -/
def feEq (a b : Limbs) : Bool := feBytes a == feBytes b

/-- `fe_abs` (R136): the representative whose low bit is 0. -/
def feAbs (a : Limbs) : Limbs := feSel (feNeg a) a (feIsNeg a)

/-- `sq(x, n)` (R137): `fe_sqr` applied n times. -/
def feSqrN (x : Limbs) : Nat → Limbs
  | 0 => x
  | n + 1 => feSqrN (feSqr x) n

/-- `fe_inv` (R137): the chain to `z^(p−2)`, 254 squarings and 11 multiplications. -/
def feInv (z : Limbs) : Limbs :=
  let z2 := feSqr z
  let z9 := feMul (feSqrN z2 2) z
  let z11 := feMul z9 z2
  let z2_5_0 := feMul (feSqr z11) z9
  let z2_10_0 := feMul (feSqrN z2_5_0 5) z2_5_0
  let z2_20_0 := feMul (feSqrN z2_10_0 10) z2_10_0
  let z2_40_0 := feMul (feSqrN z2_20_0 20) z2_20_0
  let z2_50_0 := feMul (feSqrN z2_40_0 10) z2_10_0
  let z2_100_0 := feMul (feSqrN z2_50_0 50) z2_50_0
  let z2_200_0 := feMul (feSqrN z2_100_0 100) z2_100_0
  let z2_250_0 := feMul (feSqrN z2_200_0 50) z2_50_0
  feMul (feSqrN z2_250_0 5) z11

/-- `fe_pow22523` (R138): the chain to `x^(2^252 − 3)`, 251 squarings and 11 multiplications. -/
def fePow22523 (x : Limbs) : Limbs :=
  let x2 := feSqr x
  let x9 := feMul x (feSqrN x2 2)
  let x11 := feMul x2 x9
  let x2_5_0 := feMul x9 (feSqr x11)
  let x2_10_0 := feMul (feSqrN x2_5_0 5) x2_5_0
  let x2_20_0 := feMul (feSqrN x2_10_0 10) x2_10_0
  let x2_40_0 := feMul (feSqrN x2_20_0 20) x2_20_0
  let x2_50_0 := feMul (feSqrN x2_40_0 10) x2_10_0
  let x2_100_0 := feMul (feSqrN x2_50_0 50) x2_50_0
  let x2_200_0 := feMul (feSqrN x2_100_0 100) x2_100_0
  let x2_250_0 := feMul (feSqrN x2_200_0 50) x2_50_0
  feMul (feSqrN x2_250_0 2) x

/-- `fe_sqrtratio(u, v)` (R139): the root and `wasSquare`; all three comparisons are evaluated. -/
def feSqrtRatio (u v : Limbs) : Limbs × Bool :=
  let v2 := feSqr v
  let uv3 := feMul u (feMul v2 v)
  let uv7 := feMul uv3 (feSqr v2)
  let r := feMul uv3 (fePow22523 uv7)
  let check := feMul v (feSqr r)
  let uneg := feNeg u
  let correct := feEq check u
  let flipped := feEq check uneg
  let flippedI := feEq check (feMul uneg feSqrtM1)
  let rprime := feMul r feSqrtM1
  let root := feSel rprime r (flipped || flippedI)
  (feAbs root, correct || flipped)

end Sys2Proof.Machine
end

