-- ==== Sys2Proof/Machine/Coords.lean ====
section
/-! DEFINITION. The conversions between the point types, the mixed adder and the doubler (42_coords.md R201 to R212), each a fixed
sequence of field functions in the order its rule writes. -/

namespace Sys2Proof.Machine

/-- `pt_p2_from_p3` (R202): T dropped, the limbs copied. -/
def p2FromP3 (p : P3) : P2 := ⟨p.X, p.Y, p.Z⟩

/-- `pt_p2_from_c` (R203, 90_conflicts.md C4): three multiplications. -/
def p2FromC (c : P1xP1) : P2 := ⟨feMul c.X c.T, feMul c.Y c.Z, feMul c.Z c.T⟩

/-- `pt_p3_from_c` (R204): four multiplications. -/
def p3FromC (c : P1xP1) : P3 := ⟨feMul c.X c.T, feMul c.Y c.Z, feMul c.Z c.T, feMul c.X c.Y⟩

/-- `pt_q_from_p3` (R205): Z copied. -/
def qFromP3 (p : P3) : ProjCached := ⟨feAdd p.Y p.X, feSub p.Y p.X, p.Z, feMul p.T feD2⟩

/-- `pt_a_from_p3` (R206): the cached components, each scaled by `1/Z`. -/
def aFromP3 (p : P3) : AffineCached :=
  let ypx := feAdd p.Y p.X
  let ymx := feSub p.Y p.X
  let t2d := feMul p.T feD2
  let zi := feInv p.Z
  ⟨feMul ypx zi, feMul ymx zi, feMul t2d zi⟩

/-- `pt_cadd` (R207). -/
def ptCadd (p : P3) (q : ProjCached) : P1xP1 :=
  let ypx := feAdd p.Y p.X
  let ymx := feSub p.Y p.X
  let pp := feMul ypx q.YpX
  let mm := feMul ymx q.YmX
  let tt2d := feMul p.T q.T2d
  let zz := feMul p.Z q.Z
  let zz2 := feAdd zz zz
  ⟨feSub pp mm, feAdd pp mm, feAdd zz2 tt2d, feSub zz2 tt2d⟩

/-- `pt_csub` (R208): YpX and YmX exchanged, and the signs of T2d in Z and T. -/
def ptCsub (p : P3) (q : ProjCached) : P1xP1 :=
  let ypx := feAdd p.Y p.X
  let ymx := feSub p.Y p.X
  let pp := feMul ypx q.YmX
  let mm := feMul ymx q.YpX
  let tt2d := feMul p.T q.T2d
  let zz := feMul p.Z q.Z
  let zz2 := feAdd zz zz
  ⟨feSub pp mm, feAdd pp mm, feSub zz2 tt2d, feAdd zz2 tt2d⟩

/-- `pt_cadda` (R209). -/
def ptCadda (p : P3) (q : AffineCached) : P1xP1 :=
  let ypx := feAdd p.Y p.X
  let ymx := feSub p.Y p.X
  let pp := feMul ypx q.YpX
  let mm := feMul ymx q.YmX
  let tt2d := feMul p.T q.T2d
  let z2 := feAdd p.Z p.Z
  ⟨feSub pp mm, feAdd pp mm, feAdd z2 tt2d, feSub z2 tt2d⟩

/-- `pt_csuba` (R210). -/
def ptCsuba (p : P3) (q : AffineCached) : P1xP1 :=
  let ypx := feAdd p.Y p.X
  let ymx := feSub p.Y p.X
  let pp := feMul ypx q.YmX
  let mm := feMul ymx q.YpX
  let tt2d := feMul p.T q.T2d
  let z2 := feAdd p.Z p.Z
  ⟨feSub pp mm, feAdd pp mm, feSub z2 tt2d, feAdd z2 tt2d⟩

/-- `pt_cdbl` (R211). -/
def ptCdbl (j : P2) : P1xP1 :=
  let xx := feSqr j.X
  let yy := feSqr j.Y
  let zz := feSqr j.Z
  let zz2 := feAdd zz zz
  let xpysq := feSqr (feAdd j.X j.Y)
  let cY := feAdd yy xx
  let cZ := feSub yy xx
  let cX := feSub xpysq cY
  let cT := feSub zz2 cZ
  ⟨cX, cY, cZ, cT⟩

/-- `pt_q_sel` (R212). -/
def qSel (a b : ProjCached) (c : Bool) : ProjCached :=
  ⟨feSel a.YpX b.YpX c, feSel a.YmX b.YmX c, feSel a.Z b.Z c, feSel a.T2d b.T2d c⟩

/-- `pt_a_sel` (R212). -/
def aSel (a b : AffineCached) (c : Bool) : AffineCached :=
  ⟨feSel a.YpX b.YpX c, feSel a.YmX b.YmX c, feSel a.T2d b.T2d c⟩

/-- `pt_q_cneg` (R212). -/
def qCneg (q : ProjCached) (c : Bool) : ProjCached :=
  let yy := feSwap q.YpX q.YmX c
  ⟨yy.1, yy.2, q.Z, feCneg q.T2d c⟩

/-- `pt_a_cneg` (R212). -/
def aCneg (q : AffineCached) (c : Bool) : AffineCached :=
  let yy := feSwap q.YpX q.YmX c
  ⟨yy.1, yy.2, feCneg q.T2d c⟩

end Sys2Proof.Machine
end

