-- ==== Sys2Proof/Machine/Tables.lean ====
section
/-! DEFINITION. Building a lookup table and selecting from one (43_tables.md R230 to R239). -/

namespace Sys2Proof.Machine

/-- `x, f x, f (f x), …`: eight entries, each made from the one before it (R231 to R233). -/
def tableOf {α : Type} (first : α) (next : α → α) : Vector α 8 :=
  let e1 := next first
  let e2 := next e1
  let e3 := next e2
  let e4 := next e3
  let e5 := next e4
  let e6 := next e5
  #v[first, e1, e2, e3, e4, e5, e6, next e6]

/-- `tb_lt_build` (R231): `1·Q` to `8·Q`, by repeated addition of Q. -/
def ltBuild (q : P3) : ProjTable := tableOf (qFromP3 q) fun e => qFromP3 (p3FromC (ptCadd q e))

/-- `tb_at_build` (R232): the same in affineCached form. -/
def atBuild (q : P3) : AffineTable := tableOf (aFromP3 q) fun e => aFromP3 (p3FromC (ptCadda q e))

/-- `tb_nt_build` (R233): the odd multiples `1·Q` to `15·Q`. -/
def ntBuild (q : P3) : ProjTable :=
  let e0 := qFromP3 q
  let q2 := p3FromC (ptCadd q e0)
  tableOf e0 fun e => qFromP3 (p3FromC (ptCadd q2 e))

/-- `neg(x)` of a digit byte (R234). -/
def digitNeg (x : Byte) : Bool := x.msb

/-- `abs(x)` of a digit byte in masked form (R234). -/
def digitAbs (x : Byte) : Nat :=
  let xmask : Byte := if x.msb then 0xFF else 0x00
  ((x + xmask) ^^^ xmask).toNat

/-- The scan of R235: every entry is read, and kept where its multiple `j` equals `|x|`. -/
def selectScan {α : Type} (sel : α → α → Bool → α) (k : Nat) : List α → Nat → α → α
  | [], _, dest => dest
  | e :: es, j, dest => selectScan sel k es (j + 1) (sel e dest (k == j))

/-- `tb_lt_sel` (R235). -/
def ltSel (t : ProjTable) (x : Byte) : ProjCached :=
  qCneg (selectScan qSel (digitAbs x) t.toList 1 qIdent) (digitNeg x)

/-- `tb_at_sel` (R236). -/
def atSel (t : AffineTable) (x : Byte) : AffineCached :=
  aCneg (selectScan aSel (digitAbs x) t.toList 1 aIdent) (digitNeg x)

/-- `tb_nt_sel` (R237): entry `m div 2` of the odd multiple `m`. An `m` beyond the table, which no command and no NAF digit
gives, selects the identity (log entry 11). -/
def ntSel (t : ProjTable) (m : Nat) : ProjCached := t.toList.getD (m / 2) qIdent

/-- `BNT[m div 2]` (R237, R250), with the same reading of an `m` beyond the table. -/
def bntSel (m : Nat) : AffineCached :=
  match BNT.toList[m / 16]? with
  | some part => part.toList.getD (m / 2 % 8) aIdent
  | none => aIdent

/-- Digit legality of the constant-time selections (R239): `-8 <= x <= 8`. -/
def digitLegal (x : Byte) : Bool := legalDigit x.toInt

end Sys2Proof.Machine
end

