-- ==== Sys2Proof/Machine/Operands.lean ====
section
/-! DEFINITION. The operand forms: how a command reads a source that can fail (60_exceptions.md R323 steps 1 to 4). Each `with…` hands
the operand's value to the rest of the command, or raises the one error the operand can raise, with nothing written. Field,
scalar, predicate and digit registers have no tag and are read directly (R23, R25, R35, R37). -/

namespace Sys2Proof.Machine

/-- Operands no legal word encodes (R97). The decoder rejects them first, so a CMD write never reaches this; a hand-made term is
answered as the illegal word it would be (R330, log entry 10). -/
def withLegal (ok : Bool) (s : State) (k : Outcome) : Outcome := if ok then k else raise .illegalCommand s

/-- A register whose tag must be set (R30). -/
def withTagged {α : Type} (t : Tagged α) (e : CmdError) (s : State) (k : α → Outcome) : Outcome :=
  if t.tag then k t.val else raise e s

/-- A P source (R328). -/
def withP (a : Fin 16) (s : State) (k : P3 → Outcome) : Outcome := withTagged s.P[a] .uninitializedPoint s k

/-- A J source (R328). -/
def withJ (a : Fin 4) (s : State) (k : P2 → Outcome) : Outcome := withTagged s.J[a] .uninitializedPoint s k

/-- A C source (R328). -/
def withC (a : Fin 4) (s : State) (k : P1xP1 → Outcome) : Outcome := withTagged s.C[a] .uninitializedPoint s k

/-- A Q source (R328). -/
def withQ (a : Fin 8) (s : State) (k : ProjCached → Outcome) : Outcome := withTagged s.Q[a] .uninitializedPoint s k

/-- An A source (R328). -/
def withA (a : Fin 8) (s : State) (k : AffineCached → Outcome) : Outcome := withTagged s.A[a] .uninitializedPoint s k

/-- An LT source (R331). -/
def withLT (a : Fin 8) (s : State) (k : ProjTable → Outcome) : Outcome := withTagged s.LT[a] .tableNotBuilt s k

/-- An AT source (R331). -/
def withAT (a : Fin 2) (s : State) (k : AffineTable → Outcome) : Outcome := withTagged s.AT[a] .tableNotBuilt s k

/-- An NT source (R331). -/
def withNT (a : Fin 8) (s : State) (k : ProjTable → Outcome) : Outcome := withTagged s.NT[a] .tableNotBuilt s k

/-- `IORead(n, len, err)` (R14, R67): the bytes of IO[n] if IOLEN[n] is exactly `len`, else the error. The buffer is not changed. -/
def withBytes (n : Fin 4) (len : Nat) (e : CmdError) (s : State) (k : List Byte → Outcome) : Outcome :=
  if s.IOLEN[n].toNat = len then k (ioBytes n len s) else raise e s

/-- The digit `DG[b][i]` of a constant-time selection, legal in -8..8 (R239, R333). -/
def withDigit (b : Fin 8) (i : Fin 256) (s : State) (k : Byte → Outcome) : Outcome :=
  if digitLegal s.DG[b][i] then k s.DG[b][i] else raise .illegalDigit s

/-- The immediate digit `sext(IMM)`, legal in -8..8 (R95, R239). -/
def withImmDigit (x : Int) (s : State) (k : Byte → Outcome) : Outcome :=
  withLegal (legalDigit x) s (k (BitVec.ofInt 8 x))

/-- A value a decoder may reject (R174, R263): the error, or the value. -/
def withSome {α : Type} (v : Option α) (e : CmdError) (s : State) (k : α → Outcome) : Outcome :=
  match v with
  | some x => k x
  | none => raise e s

/-- The pairs `(S[a+k], P[b+k])`, k = 0..n−1, of a multi-scalar command (R279). -/
def pairSources (a : Fin 8) (b : Fin 16) (n : Nat) (s : State) : List (BitVec 256 × Tagged P3) :=
  ((s.S.toList.drop a.val).take n).zip ((s.P.toList.drop b.val).take n)

/-- The sources of PMSM and PVMSM (R102, R279): the range must lie in its files and every point must be initialised. -/
def withPairs (a : Fin 8) (b : Fin 16) (n : Nat) (s : State) (k : List (Nat × P3) → Outcome) : Outcome :=
  withLegal (legalPairs a b n) s <|
    if (pairSources a b n s).all fun x => x.2.tag then
      k ((pairSources a b n s).map fun x => (x.1.toNat, x.2.val))
    else raise .uninitializedPoint s

/-- `F[a+k]` of a group of four field registers `a..a+3` (R272, R273). -/
def quadReg (a : Fin 29) (k : Fin 4) : Fin 32 := ⟨a.val + k.val, by omega⟩

/-- The four field registers PSETEXT reads (R273). -/
def readQuad (a : Fin 29) (s : State) : P3 :=
  ⟨s.F[quadReg a 0], s.F[quadReg a 1], s.F[quadReg a 2], s.F[quadReg a 3]⟩

/-- The four field registers PEXT writes (R272). -/
def setQuad (d : Fin 29) (p : P3) (s : State) : State :=
  setF (quadReg d 3) p.T (setF (quadReg d 2) p.Z (setF (quadReg d 1) p.Y (setF (quadReg d 0) p.X s)))

/-- Component `c` of a P3 value: X, Y, Z, T (R313). -/
def compP (p : P3) : Fin 4 → Limbs
  | 0 => p.X
  | 1 => p.Y
  | 2 => p.Z
  | 3 => p.T

/-- Component `c` of a P2 value: X, Y, Z (R313). -/
def compJ (p : P2) : Fin 3 → Limbs
  | 0 => p.X
  | 1 => p.Y
  | 2 => p.Z

/-- Component `c` of a P1xP1 value: X, Y, Z, T (R313). -/
def compC (p : P1xP1) : Fin 4 → Limbs
  | 0 => p.X
  | 1 => p.Y
  | 2 => p.Z
  | 3 => p.T

/-- Component `c` of a projCached value: YpX, YmX, Z, T2d (R313). -/
def compQ (p : ProjCached) : Fin 4 → Limbs
  | 0 => p.YpX
  | 1 => p.YmX
  | 2 => p.Z
  | 3 => p.T2d

/-- Component `c` of an affineCached value: YpX, YmX, T2d (R313). -/
def compA (p : AffineCached) : Fin 3 → Limbs
  | 0 => p.YpX
  | 1 => p.YmX
  | 2 => p.T2d

/-- XGET's source (R313): the named component, or UninitializedPoint. -/
def withComponent (src : Component) (s : State) (k : Limbs → Outcome) : Outcome :=
  match src with
  | .ofP r c => withP r s fun p => k (compP p c)
  | .ofJ r c => withJ r s fun p => k (compJ p c)
  | .ofC r c => withC r s fun p => k (compC p c)
  | .ofQ r c => withQ r s fun p => k (compQ p c)
  | .ofA r c => withA r s fun p => k (compA p c)

end Sys2Proof.Machine
end

