-- ==== Sys2Proof/Machine/CoordCmds.lean ====
section
/-! DEFINITION. The ten coordinate commands (42_coords.md R215 to R224). -/

namespace Sys2Proof.Machine

/-- JFROMP (R215): `pt_p2_from_p3`. -/
def execJfromp (d : Fin 4) (a : Fin 16) (s : State) : Outcome :=
  withP a s fun p => complete (setJ d (p2FromP3 p) s)

/-- JFROMC (R216): `pt_p2_from_c`. -/
def execJfromc (d a : Fin 4) (s : State) : Outcome :=
  withC a s fun c => complete (setJ d (p2FromC c) s)

/-- PFROMC (R217): `pt_p3_from_c`. -/
def execPfromc (d : Fin 16) (a : Fin 4) (s : State) : Outcome :=
  withC a s fun c => complete (setP d (p3FromC c) s)

/-- QFROMP (R218): `pt_q_from_p3`. -/
def execQfromp (d : Fin 8) (a : Fin 16) (s : State) : Outcome :=
  withP a s fun p => complete (setQ d (qFromP3 p) s)

/-- AFROMP (R219): `pt_a_from_p3`. -/
def execAfromp (d : Fin 8) (a : Fin 16) (s : State) : Outcome :=
  withP a s fun p => complete (setA d (aFromP3 p) s)

/-- CADD (R220): `pt_cadd`. -/
def execCadd (d : Fin 4) (a : Fin 16) (b : Fin 8) (s : State) : Outcome :=
  withP a s fun p => withQ b s fun q => complete (setC d (ptCadd p q) s)

/-- CSUB (R221): `pt_csub`. -/
def execCsub (d : Fin 4) (a : Fin 16) (b : Fin 8) (s : State) : Outcome :=
  withP a s fun p => withQ b s fun q => complete (setC d (ptCsub p q) s)

/-- CADDA (R222): `pt_cadda`. -/
def execCadda (d : Fin 4) (a : Fin 16) (b : Fin 8) (s : State) : Outcome :=
  withP a s fun p => withA b s fun q => complete (setC d (ptCadda p q) s)

/-- CSUBA (R223): `pt_csuba`. -/
def execCsuba (d : Fin 4) (a : Fin 16) (b : Fin 8) (s : State) : Outcome :=
  withP a s fun p => withA b s fun q => complete (setC d (ptCsuba p q) s)

/-- CDBL (R224): `pt_cdbl`. -/
def execCdbl (d a : Fin 4) (s : State) : Outcome :=
  withJ a s fun j => complete (setC d (ptCdbl j) s)

end Sys2Proof.Machine
end

