-- ==== Sys2Proof/Machine/FieldCmds.lean ====
section
/-! DEFINITION. The 22 field commands (40_field.md R140 to R161). Every source is read before a destination is written (R15, R163). -/

namespace Sys2Proof.Machine

/-- The constants FLDC loads (R140, R47). -/
def fieldConst : FieldConst → Limbs
  | .zero => feZero
  | .one => feOne
  | .d => feD
  | .d2 => feD2
  | .sqrtm1 => feSqrtM1

/-- Eight bytes of a limb image as a raw u64 (R64, R160). -/
def limbAt (b : List Byte) (i : Nat) : U64 := BitVec.ofNat 64 (leNat ((b.drop (8 * i)).take 8))

/-- A 40-byte limb image taken raw (R160): no masking and no carry. -/
def limbsOfBytes (b : List Byte) : Limbs := ⟨limbAt b 0, limbAt b 1, limbAt b 2, limbAt b 3, limbAt b 4⟩

/-- A limb vector as its 40-byte image (R161). -/
def limbBytes (l : Limbs) : List Byte :=
  bytesLE l.l0.toNat 8 ++ bytesLE l.l1.toNat 8 ++ bytesLE l.l2.toNat 8 ++ bytesLE l.l3.toNat 8 ++ bytesLE l.l4.toNat 8

/-- FLDC (R140): a constant of the ROM. -/
def execFldc (d : Fin 32) (const : FieldConst) (s : State) : Outcome :=
  complete (setF d (fieldConst const) s)

/-- FMOV (R141): five limbs copied. -/
def execFmov (d a : Fin 32) (s : State) : Outcome :=
  complete (setF d s.F[a] s)

/-- FADD (R142): `fe_add`. -/
def execFadd (d a b : Fin 32) (s : State) : Outcome :=
  complete (setF d (feAdd s.F[a] s.F[b]) s)

/-- FSUB (R143): `fe_sub`. -/
def execFsub (d a b : Fin 32) (s : State) : Outcome :=
  complete (setF d (feSub s.F[a] s.F[b]) s)

/-- FNEG (R144): `fe_neg`. -/
def execFneg (d a : Fin 32) (s : State) : Outcome :=
  complete (setF d (feNeg s.F[a]) s)

/-- FMUL (R145): `fe_mul`. -/
def execFmul (d a b : Fin 32) (s : State) : Outcome :=
  complete (setF d (feMul s.F[a] s.F[b]) s)

/-- FSQR (R146): `fe_sqr`. -/
def execFsqr (d a : Fin 32) (s : State) : Outcome :=
  complete (setF d (feSqr s.F[a]) s)

/-- FMUL32 (R147): `fe_mul32` by ARG, which stays as it is. -/
def execFmul32 (d a : Fin 32) (s : State) : Outcome :=
  complete (setF d (feMul32 s.F[a] s.ARG) s)

/-- FCARRY (R148): `fe_carry`. -/
def execFcarry (d a : Fin 32) (s : State) : Outcome :=
  complete (setF d (feCarry s.F[a]) s)

/-- FREDUCE (R149): `fe_reduce`. -/
def execFreduce (d a : Fin 32) (s : State) : Outcome :=
  complete (setF d (feReduce s.F[a]) s)

/-- FINV (R150): `fe_inv`; inverting 0 gives 0 and is no error. -/
def execFinv (d a : Fin 32) (s : State) : Outcome :=
  complete (setF d (feInv s.F[a]) s)

/-- FPOW (R151): `fe_pow22523`. -/
def execFpow (d a : Fin 32) (s : State) : Outcome :=
  complete (setF d (fePow22523 s.F[a]) s)

/-- FSQRTR (R152): `fe_sqrtratio`: the root into `F[d]`, wasSquare into `K[k]`. -/
def execFsqrtr (d : Fin 32) (k : Fin 8) (u v : Fin 32) (s : State) : Outcome :=
  complete (setK k (feSqrtRatio s.F[u] s.F[v]).2 (setF d (feSqrtRatio s.F[u] s.F[v]).1 s))

/-- FISNEG (R153): `fe_isneg`. -/
def execFisneg (k : Fin 8) (a : Fin 32) (s : State) : Outcome :=
  complete (setK k (feIsNeg s.F[a]) s)

/-- FEQ (R154): `fe_eq`. -/
def execFeq (k : Fin 8) (a b : Fin 32) (s : State) : Outcome :=
  complete (setK k (feEq s.F[a] s.F[b]) s)

/-- FSEL (R155): `fe_sel` on `K[c]`. -/
def execFsel (d a b : Fin 32) (c : Fin 8) (s : State) : Outcome :=
  complete (setF d (feSel s.F[a] s.F[b] s.K[c]) s)

/-- FSWAP (R156): `fe_swap` on `K[c]`; `a = b` leaves the register as it is. -/
def execFswap (a b : Fin 32) (c : Fin 8) (s : State) : Outcome :=
  complete (setF b (feSwap s.F[a] s.F[b] s.K[c]).2 (setF a (feSwap s.F[a] s.F[b] s.K[c]).1 s))

/-- FCNEG (R157): `fe_cneg` on `K[c]`. -/
def execFcneg (d a : Fin 32) (c : Fin 8) (s : State) : Outcome :=
  complete (setF d (feCneg s.F[a] s.K[c]) s)

/-- FSETB (R158): `fe_setbytes` of 32 bytes. -/
def execFsetb (d : Fin 32) (n : Fin 4) (s : State) : Outcome :=
  withBytes n 32 .invalidFieldElementLength s fun b => complete (setF d (feSetBytes b) s)

/-- FGETB (R159): the canonical 32 bytes. -/
def execFgetb (n : Fin 4) (a : Fin 32) (s : State) : Outcome :=
  complete (ioWrite n (feBytes s.F[a]) s)

/-- FLDL (R160): five raw limbs from 40 bytes. -/
def execFldl (d : Fin 32) (n : Fin 4) (s : State) : Outcome :=
  withBytes n 40 .invalidLimbImageLength s fun b => complete (setF d (limbsOfBytes b) s)

/-- FSTL (R161): five raw limbs to 40 bytes. -/
def execFstl (n : Fin 4) (a : Fin 32) (s : State) : Outcome :=
  complete (ioWrite n (limbBytes s.F[a]) s)

end Sys2Proof.Machine
end

