-- ==== Sys2Proof/Machine/ScalarArith.lean ====
section
/-! DEFINITION. The scalar unit's pure functions on integers (41_scalar.md R170 to R177). Each is given by its value, as R170 says. -/

namespace Sys2Proof.Machine

/-- `ℓ`, the prime order of the generator (R17). -/
def ell : Nat := 2 ^ 252 + 27742317777372353535851937790883648493

/-- `sc_reduce(n) = n mod ℓ` (R171). -/
def scReduce (n : Nat) : Nat := n % ell

/-- `sc_add` (R172). -/
def scAdd (a b : Nat) : Nat := scReduce (a + b)

/-- `sc_sub` (R172): the least non-negative residue of the difference. -/
def scSub (a b : Nat) : Nat := (((a : Int) - (b : Int)) % (ell : Int)).toNat

/-- `sc_neg` (R172). -/
def scNeg (a : Nat) : Nat := (((ell : Int) - (a : Int)) % (ell : Int)).toNat

/-- `sc_mul` (R172). -/
def scMul (a b : Nat) : Nat := scReduce (a * b)

/-- `s^e mod ℓ` for an exponent of at most `n` bits, by repeated squaring. The chain is not observable (R170; log entry 15). -/
def scPow (s : Nat) : Nat → Nat → Nat
  | _, 0 => 1
  | e, n + 1 =>
    let h := scPow s (e / 2) n
    if e % 2 = 1 then scMul (scMul h h) s else scMul h h

/-- `sc_inv(s) = s^(ℓ−2) mod ℓ` (R173). -/
def scInv (s : Nat) : Nat := scPow s (ell - 2) 253

/-- `sc_bytes(s) = bytesLE(s, 32)` (R174). -/
def scBytes (s : Nat) : List Byte := bytesLE s 32

/-- `sc_setcanonical` (R174): none where it raises NonCanonicalScalar. -/
def scSetCanonical (b : List Byte) : Option Nat := if leNat b ≥ ell then none else some (leNat b)

/-- `sc_setuniform` (R174). -/
def scSetUniform (b : List Byte) : Nat := scReduce (leNat b)

/-- The clamped copy `b'` of R174: bits 0, 1, 2 of byte 0 and bit 7 of byte 31 cleared, bit 6 of byte 31 set. -/
def clampBytes (b : List Byte) : List Byte :=
  (b.set 0 (b.getD 0 0 &&& 0xF8)).set 31 ((b.getD 31 0 &&& 0x7F) ||| 0x40)

/-- `sc_setclamp` (R174). -/
def scSetClamp (b : List Byte) : Nat := scReduce (leNat (clampBytes b))

/-- The nibbles of a byte string, low nibble first (R175). -/
def nibbles (b : List Byte) : List Nat := b.flatMap fun x => [x.toNat % 16, x.toNat / 16]

/-- R175's carry loop: every digit but the last is recentred by `carry = (d + 8) >> 4`, and the last takes the carry as it is. -/
def recenter : List Nat → Nat → List Int
  | [], _ => []
  | [d], c => [((d + c : Nat) : Int)]
  | d :: e :: ds, c =>
    let carry := (d + c + 8) / 16
    (((d + c : Nat) : Int) - 16 * (carry : Int)) :: recenter (e :: ds) carry

/-- `sc_radix16` (R175): 64 signed digits. -/
def scRadix16 (s : Nat) : List Int := recenter (nibbles (scBytes s)) 0

/-- R176's loop from position `pos` upward over `n` more positions. `skip` positions are left zero after a non-zero digit, which is
the loop's `pos := pos + w`. -/
def nafFrom (s w : Nat) : Nat → Nat → Nat → Nat → List Int
  | 0, _, _, _ => []
  | n + 1, pos, skip + 1, carry => 0 :: nafFrom s w n (pos + 1) skip carry
  | n + 1, pos, 0, carry =>
    let window := carry + s / 2 ^ pos % 2 ^ w
    if window % 2 = 0 then 0 :: nafFrom s w n (pos + 1) 0 carry
    else if window < 2 ^ (w - 1) then (window : Int) :: nafFrom s w n (pos + 1) (w - 1) 0
    else ((window : Int) - ((2 ^ w : Nat) : Int)) :: nafFrom s w n (pos + 1) (w - 1) 1

/-- `sc_naf(s, w)` (R176): 256 signed digits. -/
def scNaf (s w : Nat) : List Int := nafFrom s w 256 0 0 0

/-- `sc_eq` (R177). -/
def scEq (a b : Nat) : Bool := a == b

end Sys2Proof.Machine
end

