-- ==== Sys2Proof/Machine/PointArith.lean ====
section
/-! DEFINITION. The point unit's pure functions: encodings, group operations and scalar multiplications (44_point.md R263 to R280). -/

namespace Sys2Proof.Machine

/-- PADD's sum (R266). -/
def ptAdd (u v : P3) : P3 := p3FromC (ptCadd u (qFromP3 v))

/-- PSUB's difference (R267). -/
def ptSub (u v : P3) : P3 := p3FromC (ptCsub u (qFromP3 v))

/-- PNEG (R268): Y and Z copied. -/
def ptNeg (u : P3) : P3 := ⟨feNeg u.X, u.Y, u.Z, feNeg u.T⟩

/-- PEQ (R269): cross-multiplied comparison. -/
def ptEq (u v : P3) : Bool :=
  let t1 := feMul v.X u.Z
  let t2 := feMul u.X v.Z
  let t3 := feMul v.Y u.Z
  let t4 := feMul u.Y v.Z
  feEq t1 t2 && feEq t3 t4

/-- PSETB's decoding (R263): none where it raises InvalidPointEncoding. -/
def ptSetBytes (b : List Byte) : Option P3 :=
  let y := feSetBytes b
  let y2 := feSqr y
  let u := feSub y2 feOne
  let v := feAdd (feMul y2 feD) feOne
  let (x, was) := feSqrtRatio u v
  if was then
    let x := feSel (feNeg x) x (b.getD 31 0).msb
    some ⟨x, y, feOne, feMul x y⟩
  else none

/-- PGETB's encoding (R264). -/
def ptBytes (p : P3) : List Byte :=
  let zi := feInv p.Z
  let x := feMul p.X zi
  let y := feMul p.Y zi
  let out := feBytes y
  out.set 31 (out.getD 31 0 ||| (if feIsNeg x then 0x80 else 0))

/-- PGETM's encoding (R265). -/
def ptMontgomery (p : P3) : List Byte :=
  let num := feAdd p.Z p.Y
  let den := feInv (feSub p.Z p.Y)
  feBytes (feMul num den)

/-- PSETEXT's check (R273): both curve equations. -/
def ptOnCurve (p : P3) : Bool :=
  let xx := feSqr p.X
  let yy := feSqr p.Y
  let zz := feSqr p.Z
  let tt := feSqr p.T
  let lhs := feSub yy xx
  let rhs := feAdd (feMul feD tt) zz
  feEq lhs rhs && feEq (feMul p.X p.Y) (feMul p.T p.Z)

/-- PMUL8 (R270): three doublings. -/
def ptMul8 (p : P3) : P3 :=
  let c := ptCdbl (p2FromP3 p)
  let c := ptCdbl (p2FromC c)
  let c := ptCdbl (p2FromC c)
  p3FromC c

/-- `pt_mul16` (R274): four doublings. -/
def ptMul16 (p : P3) : P3 :=
  let c := ptCdbl (p2FromP3 p)
  let c := ptCdbl (p2FromC c)
  let c := ptCdbl (p2FromC c)
  let c := ptCdbl (p2FromC c)
  p3FromC c

/-- PMULL's loop (R271) over the bits `n−1` down to 0 of `ℓ`. -/
def mullLoop (q : ProjCached) : Nat → P3 → P3
  | 0, acc => acc
  | n + 1, acc =>
    let dbl := p3FromC (ptCdbl (p2FromP3 acc))
    mullLoop q n (if ell.testBit n then p3FromC (ptCadd dbl q) else dbl)

/-- PMULL (R271): the left-to-right binary expansion of `ℓ`. -/
def ptMulL (p : P3) : P3 := mullLoop (qFromP3 p) 252 p

/-- A digit as the byte the selections take (R234). -/
def digitByte (x : Int) : Byte := BitVec.ofInt 8 x

/-- Digit `i` of a recoding. -/
def digitAt (d : List Int) (i : Nat) : Int := d.getD i 0

/-- R275's loop over positions `n−1` down to 0. -/
def smulLoop (t : ProjTable) (d : List Int) : Nat → P3 → P3
  | 0, v => v
  | n + 1, v => smulLoop t d n (p3FromC (ptCadd (ptMul16 v) (ltSel t (digitByte (digitAt d n)))))

/-- `pt_smul` (R275): the first lookup is added to the identity. -/
def ptSmul (s : Nat) (q : P3) : P3 :=
  let t := ltBuild q
  let d := scRadix16 s
  smulLoop t d 63 (p3FromC (ptCadd ptIdent (ltSel t (digitByte (digitAt d 63)))))

/-- R277's accumulation over rows `k, k+1, …` of BPT of the digits at positions `2k + odd`. -/
def bmulLoop (d : List Int) (odd : Nat) : List AffineTable → Nat → P3 → P3
  | [], _, v => v
  | row :: rows, k, v =>
    bmulLoop d odd rows (k + 1) (p3FromC (ptCadda v (atSel row (digitByte (digitAt d (2 * k + odd))))))

/-- PBMUL (R277): the odd digits, times 16, then the even digits. -/
def ptBmul (s : Nat) : P3 :=
  let d := scRadix16 s
  let v := bmulLoop d 1 BPT.toList 0 ptIdent
  let v := ptMul16 v
  bmulLoop d 0 BPT.toList 0 v

/-- One NAF digit added to an accumulator (R278, R280): a positive digit adds its multiple, a negative one subtracts it, zero does
nothing. -/
def nafAdd (t : ProjTable) (x : Int) (c : P1xP1) : P1xP1 :=
  if 0 < x then ptCadd (p3FromC c) (ntSel t x.natAbs)
  else if x < 0 then ptCsub (p3FromC c) (ntSel t x.natAbs)
  else c

/-- The same with the generator's table BNT (R278). -/
def nafAddBase (x : Int) (c : P1xP1) : P1xP1 :=
  if 0 < x then ptCadda (p3FromC c) (bntSel x.natAbs)
  else if x < 0 then ptCsuba (p3FromC c) (bntSel x.natAbs)
  else c

/-- The shared loop of R278 and R280 from position `i` down to 0: at each position one doubling, then `addDigits` of that position;
between positions the result goes through P2, after position 0 to P3. -/
def dblAddLoop (addDigits : Nat → P1xP1 → P1xP1) : Nat → P2 → P3
  | 0, j => p3FromC (addDigits 0 (ptCdbl j))
  | i + 1, j => dblAddLoop addDigits i (p2FromC (addDigits (i + 1) (ptCdbl j)))

/-- PVDSBM (R278): `a·A + b·B`. -/
def ptVdsbm (a : Nat) (A : P3) (b : Nat) : P3 :=
  let an := scNaf a 5
  let bn := scNaf b 8
  let ta := ntBuild A
  dblAddLoop (fun i c => nafAddBase (digitAt bn i) (nafAdd ta (digitAt an i) c)) 255 jIdent

/-- One position of R279: every pair's digit `i` looked up and added in order. -/
def msmAdd (pairs : List (ProjTable × List Int)) (i : Nat) (v : P3) : P3 :=
  pairs.foldl (fun v td => p3FromC (ptCadd v (ltSel td.1 (digitByte (digitAt td.2 i))))) v

/-- R279's loop over positions `n−1` down to 0. -/
def msmLoop (pairs : List (ProjTable × List Int)) : Nat → P3 → P3
  | 0, v => v
  | n + 1, v => msmLoop pairs n (msmAdd pairs n (ptMul16 v))

/-- PMSM (R279): the sum of the products of the scalars and points, paired in order. -/
def ptMsm (sp : List (Nat × P3)) : P3 :=
  msmLoop (sp.map fun x => (ltBuild x.2, scRadix16 x.1)) 64 ptIdent

/-- One position of R280. -/
def vmsmAdd (pairs : List (ProjTable × List Int)) (i : Nat) (c : P1xP1) : P1xP1 :=
  pairs.foldl (fun c td => nafAdd td.1 (digitAt td.2 i) c) c

/-- PVMSM (R280). -/
def ptVmsm (sp : List (Nat × P3)) : P3 :=
  let pairs := sp.map fun x => (ntBuild x.2, scNaf x.1 5)
  dblAddLoop (vmsmAdd pairs) 255 jIdent

end Sys2Proof.Machine
end

