-- ==== Sys2Proof/Machine/PointCmds.lean ====
section
/-! DEFINITION. The 19 point commands (44_point.md R260 to R280). The composite ones change only their destination (R50). -/

namespace Sys2Proof.Machine

/-- PIDENT (R260): the identity `(0, 1, 1, 0)`. -/
def execPident (d : Fin 16) (s : State) : Outcome :=
  complete (setP d ptIdent s)

/-- PGEN (R261): the generator. -/
def execPgen (d : Fin 16) (s : State) : Outcome :=
  complete (setP d genPoint s)

/-- PMOV (R262): limbs copied. -/
def execPmov (d a : Fin 16) (s : State) : Outcome :=
  withP a s fun p => complete (setP d p s)

/-- PSETB (R263): 32 bytes decoded: the length error before InvalidPointEncoding. -/
def execPsetb (d : Fin 16) (n : Fin 4) (s : State) : Outcome :=
  withBytes n 32 .invalidFieldElementLength s fun b =>
    withSome (ptSetBytes b) .invalidPointEncoding s fun p => complete (setP d p s)

/-- PGETB (R264): the canonical encoding. -/
def execPgetb (n : Fin 4) (a : Fin 16) (s : State) : Outcome :=
  withP a s fun p => complete (ioWrite n (ptBytes p) s)

/-- PGETM (R265): the Montgomery u-coordinate. -/
def execPgetm (n : Fin 4) (a : Fin 16) (s : State) : Outcome :=
  withP a s fun p => complete (ioWrite n (ptMontgomery p) s)

/-- PADD (R266): the sum. -/
def execPadd (d a b : Fin 16) (s : State) : Outcome :=
  withP a s fun p => withP b s fun q => complete (setP d (ptAdd p q) s)

/-- PSUB (R267): the difference. -/
def execPsub (d a b : Fin 16) (s : State) : Outcome :=
  withP a s fun p => withP b s fun q => complete (setP d (ptSub p q) s)

/-- PNEG (R268): the negative. -/
def execPneg (d a : Fin 16) (s : State) : Outcome :=
  withP a s fun p => complete (setP d (ptNeg p) s)

/-- PEQ (R269): equality of points into `K[k]`. -/
def execPeq (k : Fin 8) (a b : Fin 16) (s : State) : Outcome :=
  withP a s fun p => withP b s fun q => complete (setK k (ptEq p q) s)

/-- PMUL8 (R270): times 8. -/
def execPmul8 (d a : Fin 16) (s : State) : Outcome :=
  withP a s fun p => complete (setP d (ptMul8 p) s)

/-- PMULL (R271): times ℓ. -/
def execPmull (d a : Fin 16) (s : State) : Outcome :=
  withP a s fun p => complete (setP d (ptMulL p) s)

/-- PEXT (R272): X, Y, Z, T into `F[d..d+3]`. -/
def execPext (d : Fin 29) (a : Fin 16) (s : State) : Outcome :=
  withP a s fun p => complete (setQuad d p s)

/-- PSETEXT (R273): `F[a..a+3]` as a point, limbs unchanged, if both curve equations hold. -/
def execPsetext (d : Fin 16) (a : Fin 29) (s : State) : Outcome :=
  if ptOnCurve (readQuad a s) then complete (setP d (readQuad a s) s) else raise .invalidPointEncoding s

/-- PSMUL (R276): `pt_smul`. -/
def execPsmul (d : Fin 16) (a : Fin 8) (b : Fin 16) (s : State) : Outcome :=
  withP b s fun q => complete (setP d (ptSmul (readS a s) q) s)

/-- PBMUL (R277): `S[a]·B`. -/
def execPbmul (d : Fin 16) (a : Fin 8) (s : State) : Outcome :=
  complete (setP d (ptBmul (readS a s)) s)

/-- PVDSBM (R278): `S[a]·P[b] + S[c]·B`. -/
def execPvdsbm (d : Fin 16) (a : Fin 8) (b : Fin 16) (c : Fin 8) (s : State) : Outcome :=
  withP b s fun p => complete (setP d (ptVdsbm (readS a s) p (readS c s)) s)

/-- PMSM (R279): the sum of `n` products, `S[a+k]·P[b+k]`. -/
def execPmsm (d : Fin 16) (a : Fin 8) (b : Fin 16) (n : Nat) (s : State) : Outcome :=
  withPairs a b n s fun sp => complete (setP d (ptMsm sp) s)

/-- PVMSM (R280): the same sum by the variable-time method. -/
def execPvmsm (d : Fin 16) (a : Fin 8) (b : Fin 16) (n : Nat) (s : State) : Outcome :=
  withPairs a b n s fun sp => complete (setP d (ptVmsm sp) s)

end Sys2Proof.Machine
end

