-- ==== Sys2Proof/Machine/ScalarCmds.lean ====
section
/-! DEFINITION. The 13 scalar commands (41_scalar.md R178 to R190). -/

namespace Sys2Proof.Machine

/-- SMOV (R178): copied. -/
def execSmov (d a : Fin 8) (s : State) : Outcome :=
  complete (setS d (readS a s) s)

/-- SADD (R179): `sc_add`; no carry flag. -/
def execSadd (d a b : Fin 8) (s : State) : Outcome :=
  complete (setS d (scAdd (readS a s) (readS b s)) s)

/-- SSUB (R180): `sc_sub`; no borrow flag. -/
def execSsub (d a b : Fin 8) (s : State) : Outcome :=
  complete (setS d (scSub (readS a s) (readS b s)) s)

/-- SNEG (R181): `sc_neg`. -/
def execSneg (d a : Fin 8) (s : State) : Outcome :=
  complete (setS d (scNeg (readS a s)) s)

/-- SMUL (R182): `sc_mul`. -/
def execSmul (d a b : Fin 8) (s : State) : Outcome :=
  complete (setS d (scMul (readS a s) (readS b s)) s)

/-- SINV (R183): `sc_inv`. -/
def execSinv (d a : Fin 8) (s : State) : Outcome :=
  complete (setS d (scInv (readS a s)) s)

/-- SEQ (R184): `sc_eq`. -/
def execSeq (k a b : Fin 8) (s : State) : Outcome :=
  complete (setK k (scEq (readS a s) (readS b s)) s)

/-- SSETC (R185): a canonical scalar: the length error before NonCanonicalScalar. -/
def execSsetc (d : Fin 8) (n : Fin 4) (s : State) : Outcome :=
  withBytes n 32 .invalidScalarLength s fun b =>
    withSome (scSetCanonical b) .nonCanonicalScalar s fun v => complete (setS d v s)

/-- SSETU (R186): 64 bytes reduced. -/
def execSsetu (d : Fin 8) (n : Fin 4) (s : State) : Outcome :=
  withBytes n 64 .invalidScalarLength s fun b => complete (setS d (scSetUniform b) s)

/-- SSETCL (R187): 32 bytes clamped, then reduced. -/
def execSsetcl (d : Fin 8) (n : Fin 4) (s : State) : Outcome :=
  withBytes n 32 .invalidScalarLength s fun b => complete (setS d (scSetClamp b) s)

/-- SGETB (R188): the 32 bytes. -/
def execSgetb (n : Fin 4) (a : Fin 8) (s : State) : Outcome :=
  complete (ioWrite n (scBytes (readS a s)) s)

/-- SRDX16 (R189): 64 digits, the rest of the register 0. -/
def execSrdx16 (g a : Fin 8) (s : State) : Outcome :=
  complete (setDG g (scRadix16 (readS a s)) s)

/-- SNAF (R190): 256 NAF digits of width 5 or 8. -/
def execSnaf (g a : Fin 8) (w : Nat) (s : State) : Outcome :=
  withLegal (legalNafWidth w) s (complete (setDG g (scNaf (readS a s) w) s))

end Sys2Proof.Machine
end

