-- ==== Sys2Proof/Machine/SystemCmds.lean ====
section
/-! DEFINITION. The system commands (45_system.md R310 to R313). -/

namespace Sys2Proof.Machine

/-- The 64 digit bytes of block `blk` (R312): `DG[a][64·blk + k]`, k = 0..63. -/
def digitBlock (g : Vector Byte 256) (blk : Fin 4) : List Byte := (g.toList.drop (64 * blk.val)).take 64

/-- NOP (R310): no register, predicate or buffer is written; like every command it clears LASTERR. -/
def execNop (s : State) : Outcome :=
  complete s

/-- KSET (R311): `K[d] <- bit`. -/
def execKset (d : Fin 8) (bit : Bool) (s : State) : Outcome :=
  complete (setK d bit s)

/-- DGST (R312): 64 digits of `DG[a]` from position `64·blk`, one byte each. -/
def execDgst (n : Fin 4) (a : Fin 8) (blk : Fin 4) (s : State) : Outcome :=
  complete (ioWrite n (digitBlock s.DG[a] blk) s)

/-- XGET (R313): the named component into `F[d]`, limbs copied. -/
def execXget (d : Fin 32) (src : Component) (s : State) : Outcome :=
  withComponent src s fun v => complete (setF d v s)

end Sys2Proof.Machine
end

