-- ==== Sys2Proof/Machine/TableCmds.lean ====
section
/-! DEFINITION. The eleven table commands (43_tables.md R240 to R250). A tag error comes before IllegalDigit (R323). -/

namespace Sys2Proof.Machine

/-- LTBUILD (R240): `tb_lt_build`. -/
def execLtbuild (d : Fin 8) (a : Fin 16) (s : State) : Outcome :=
  withP a s fun p => complete (setLT d (ltBuild p) s)

/-- LTSEL (R241): `tb_lt_sel` on a stored digit. -/
def execLtsel (d a b : Fin 8) (i : Fin 256) (s : State) : Outcome :=
  withLT a s fun t => withDigit b i s fun x => complete (setQ d (ltSel t x) s)

/-- LTSELI (R242): `tb_lt_sel` on an immediate digit. -/
def execLtseli (d a : Fin 8) (x : Int) (s : State) : Outcome :=
  withImmDigit x s fun x => withLT a s fun t => complete (setQ d (ltSel t x) s)

/-- ATBUILD (R243): `tb_at_build`. -/
def execAtbuild (d : Fin 2) (a : Fin 16) (s : State) : Outcome :=
  withP a s fun p => complete (setAT d (atBuild p) s)

/-- ATSEL (R244): `tb_at_sel` on a stored digit. -/
def execAtsel (d : Fin 8) (a : Fin 2) (b : Fin 8) (i : Fin 256) (s : State) : Outcome :=
  withAT a s fun t => withDigit b i s fun x => complete (setA d (atSel t x) s)

/-- ATSELI (R245): `tb_at_sel` on an immediate digit. -/
def execAtseli (d : Fin 8) (a : Fin 2) (x : Int) (s : State) : Outcome :=
  withImmDigit x s fun x => withAT a s fun t => complete (setA d (atSel t x) s)

/-- BTSEL (R246): `tb_at_sel` from row `r` of the ROM on a stored digit. -/
def execBtsel (d : Fin 8) (r : Fin 32) (b : Fin 8) (i : Fin 256) (s : State) : Outcome :=
  withDigit b i s fun x => complete (setA d (atSel BPT[r] x) s)

/-- BTSELI (R247): `tb_at_sel` from row `r` of the ROM on an immediate digit. -/
def execBtseli (d : Fin 8) (r : Fin 32) (x : Int) (s : State) : Outcome :=
  withImmDigit x s fun x => complete (setA d (atSel BPT[r] x) s)

/-- NTBUILD (R248): `tb_nt_build`. -/
def execNtbuild (d : Fin 8) (a : Fin 16) (s : State) : Outcome :=
  withP a s fun p => complete (setNT d (ntBuild p) s)

/-- NTSEL (R249): entry `m div 2` of an NT register. -/
def execNtsel (d a : Fin 8) (m : Nat) (s : State) : Outcome :=
  withLegal (legalOdd 15 m) s (withNT a s fun t => complete (setQ d (ntSel t m) s))

/-- BNSEL (R250): `BNT[m div 2]`. -/
def execBnsel (d : Fin 8) (m : Nat) (s : State) : Outcome :=
  withLegal (legalOdd 127 m) s (complete (setA d (bntSel m) s))

end Sys2Proof.Machine
end

