-- ==== Sys2Proof/Machine/Dispatch.lean ====
section
/-! DEFINITION. The dispatch (30_encoding.md R96): one arm per command, in the order of Syntax.lean. `exec` is the command's own rule
on the current state; the CMD write around it counts in CMDCNT (Window.lean). -/

namespace Sys2Proof.Machine

/-- A command's effect (R322). -/
def exec (i : Instr) (s : State) : Host.Outcome State Fault Refusal :=
  match i with
  | .nop => Sys2Proof.Machine.execNop s
  | .kset d bit => Sys2Proof.Machine.execKset d bit s
  | .dgst n a blk => Sys2Proof.Machine.execDgst n a blk s
  | .xget d src => Sys2Proof.Machine.execXget d src s
  | .fldc d const => Sys2Proof.Machine.execFldc d const s
  | .fmov d a => Sys2Proof.Machine.execFmov d a s
  | .fadd d a b => Sys2Proof.Machine.execFadd d a b s
  | .fsub d a b => Sys2Proof.Machine.execFsub d a b s
  | .fneg d a => Sys2Proof.Machine.execFneg d a s
  | .fmul d a b => Sys2Proof.Machine.execFmul d a b s
  | .fsqr d a => Sys2Proof.Machine.execFsqr d a s
  | .fmul32 d a => Sys2Proof.Machine.execFmul32 d a s
  | .fcarry d a => Sys2Proof.Machine.execFcarry d a s
  | .freduce d a => Sys2Proof.Machine.execFreduce d a s
  | .finv d a => Sys2Proof.Machine.execFinv d a s
  | .fpow d a => Sys2Proof.Machine.execFpow d a s
  | .fsqrtr d k u v => Sys2Proof.Machine.execFsqrtr d k u v s
  | .fisneg k a => Sys2Proof.Machine.execFisneg k a s
  | .feq k a b => Sys2Proof.Machine.execFeq k a b s
  | .fsel d a b c => Sys2Proof.Machine.execFsel d a b c s
  | .fswap a b c => Sys2Proof.Machine.execFswap a b c s
  | .fcneg d a c => Sys2Proof.Machine.execFcneg d a c s
  | .fsetb d n => Sys2Proof.Machine.execFsetb d n s
  | .fgetb n a => Sys2Proof.Machine.execFgetb n a s
  | .fldl d n => Sys2Proof.Machine.execFldl d n s
  | .fstl n a => Sys2Proof.Machine.execFstl n a s
  | .smov d a => Sys2Proof.Machine.execSmov d a s
  | .sadd d a b => Sys2Proof.Machine.execSadd d a b s
  | .ssub d a b => Sys2Proof.Machine.execSsub d a b s
  | .sneg d a => Sys2Proof.Machine.execSneg d a s
  | .smul d a b => Sys2Proof.Machine.execSmul d a b s
  | .sinv d a => Sys2Proof.Machine.execSinv d a s
  | .seq k a b => Sys2Proof.Machine.execSeq k a b s
  | .ssetc d n => Sys2Proof.Machine.execSsetc d n s
  | .ssetu d n => Sys2Proof.Machine.execSsetu d n s
  | .ssetcl d n => Sys2Proof.Machine.execSsetcl d n s
  | .sgetb n a => Sys2Proof.Machine.execSgetb n a s
  | .srdx16 g a => Sys2Proof.Machine.execSrdx16 g a s
  | .snaf g a w => Sys2Proof.Machine.execSnaf g a w s
  | .jfromp d a => Sys2Proof.Machine.execJfromp d a s
  | .jfromc d a => Sys2Proof.Machine.execJfromc d a s
  | .pfromc d a => Sys2Proof.Machine.execPfromc d a s
  | .qfromp d a => Sys2Proof.Machine.execQfromp d a s
  | .afromp d a => Sys2Proof.Machine.execAfromp d a s
  | .cadd d a b => Sys2Proof.Machine.execCadd d a b s
  | .csub d a b => Sys2Proof.Machine.execCsub d a b s
  | .cadda d a b => Sys2Proof.Machine.execCadda d a b s
  | .csuba d a b => Sys2Proof.Machine.execCsuba d a b s
  | .cdbl d a => Sys2Proof.Machine.execCdbl d a s
  | .ltbuild d a => Sys2Proof.Machine.execLtbuild d a s
  | .ltsel d a b p => Sys2Proof.Machine.execLtsel d a b p s
  | .ltseli d a x => Sys2Proof.Machine.execLtseli d a x s
  | .atbuild d a => Sys2Proof.Machine.execAtbuild d a s
  | .atsel d a b p => Sys2Proof.Machine.execAtsel d a b p s
  | .atseli d a x => Sys2Proof.Machine.execAtseli d a x s
  | .btsel d r b p => Sys2Proof.Machine.execBtsel d r b p s
  | .btseli d r x => Sys2Proof.Machine.execBtseli d r x s
  | .ntbuild d a => Sys2Proof.Machine.execNtbuild d a s
  | .ntsel d a m => Sys2Proof.Machine.execNtsel d a m s
  | .bnsel d m => Sys2Proof.Machine.execBnsel d m s
  | .pident d => Sys2Proof.Machine.execPident d s
  | .pgen d => Sys2Proof.Machine.execPgen d s
  | .pmov d a => Sys2Proof.Machine.execPmov d a s
  | .psetb d n => Sys2Proof.Machine.execPsetb d n s
  | .pgetb n a => Sys2Proof.Machine.execPgetb n a s
  | .pgetm n a => Sys2Proof.Machine.execPgetm n a s
  | .padd d a b => Sys2Proof.Machine.execPadd d a b s
  | .psub d a b => Sys2Proof.Machine.execPsub d a b s
  | .pneg d a => Sys2Proof.Machine.execPneg d a s
  | .peq k a b => Sys2Proof.Machine.execPeq k a b s
  | .pmul8 d a => Sys2Proof.Machine.execPmul8 d a s
  | .pmull d a => Sys2Proof.Machine.execPmull d a s
  | .pext d a => Sys2Proof.Machine.execPext d a s
  | .psetext d a => Sys2Proof.Machine.execPsetext d a s
  | .psmul d a b => Sys2Proof.Machine.execPsmul d a b s
  | .pbmul d a => Sys2Proof.Machine.execPbmul d a s
  | .pvdsbm d a b c => Sys2Proof.Machine.execPvdsbm d a b c s
  | .pmsm d a b n => Sys2Proof.Machine.execPmsm d a b n s
  | .pvmsm d a b n => Sys2Proof.Machine.execPvmsm d a b n s

end Sys2Proof.Machine
end

