-- ==== Sys2Proof/Machine/Window.lean ====
section
/-! DEFINITION. The host window (20_memory.md): what a CMD write does (R322), every readable and writable offset (R61 to R63), and one
access as a whole (R65, R66). Offsets are from BASE; Config.windowAddress gives the platform's address of one (R60). -/

namespace Sys2Proof.Machine

/-- Executing a command word (R322): CMDCNT counts it, also an illegal one; then the command's rule, or IllegalCommand. -/
def command (w : Word32) (s : State) : Outcome :=
  let s := { s with CMDCNT := s.CMDCNT + 1 }
  match decode w with
  | .ok i => exec i s
  | .error _ => raise .illegalCommand s

/-- Reset (R51, R360): every piece of state of the block takes its reset value. The host's accesses to come are not the block's. -/
def resetBlock (s : State) : State := { State.reset with pending := s.pending }

/-- The buffer whose IOLEN stands at offset `off` (R62). -/
def iolenIndex (off : Nat) : Option (Fin 4) :=
  if off = 0x140 then some 0
  else if off = 0x1C0 then some 1
  else if off = 0x240 then some 2
  else if off = 0x2C0 then some 3
  else none

/-- A window word of buffer bytes (R64): the byte at the lowest offset in bits 7:0. -/
def ioWord (off : Nat) (s : State) : Word32 :=
  s.IO.read (off + 3) ++ s.IO.read (off + 2) ++ s.IO.read (off + 1) ++ s.IO.read off

/-- The four bytes of a window word, the one for the lowest offset first (R64). -/
def wordBytes (v : Word32) : List Byte := [v.extractLsb' 0 8, v.extractLsb' 8 8, v.extractLsb' 16 8, v.extractLsb' 24 8]

/-- What a read of offset `off` returns (R61, R62, R63): it has no side effect (R66). CMD and CTRL read 0, and so does every reserved
offset. -/
def readWord (off : Nat) (s : State) : Word32 :=
  if off = 0x000 then Config.idValue
  else if off = 0x008 then statusWord s
  else if off = 0x00C then lastErrWord s
  else if off = 0x010 then errStickyWord s
  else if off = 0x014 then s.CMDCNT
  else if off = 0x018 then kregWord s
  else if off = 0x01C then s.ARG
  else if isIoData off then ioWord off s
  else
    match iolenIndex off with
    | some n => s.IOLEN[n].setWidth 32
    | none => 0

/-- A write of `v` at offset `off` (R61, R62, R63, R66): CMD executes, CTRL with bit 0 set resets, ERRSTICKY clears, ARG and the
buffers store; a write to a read-only register or a reserved offset is ignored. -/
def writeWord (off : Nat) (v : Word32) (s : State) : Outcome :=
  if off = 0x004 then command v s
  else if off = 0x010 then .next (clearSticky v s)
  else if off = 0x01C then .next { s with ARG := v }
  else if off = 0x020 then .next (if v.getLsbD 0 then resetBlock s else s)
  else if isIoData off then .next { s with IO := s.IO.writeBytes off (wordBytes v) }
  else
    match iolenIndex off with
    | some n => .next { s with IOLEN := s.IOLEN.set n (v.setWidth 7) }
    | none => .next s

/-- The only access the window accepts (R65): 32 bits wide, naturally aligned. -/
def accepted (bytes off : Nat) : Bool := bytes == 4 && off % 4 == 0

/-- One access of the host, or the platform's hardware reset, as a whole (R66). -/
def access (a : Access) (s : State) : Outcome :=
  match a with
  | .read bytes off =>
    if off ≥ Config.windowSize then .fault .outsideWindow
    else if accepted bytes off then .next { s with answer := some (readWord off s) }
    else .refused .unsupportedAccess
  | .write bytes off v =>
    if off ≥ Config.windowSize then .fault .outsideWindow
    else if accepted bytes off then writeWord off v s
    else .refused .unsupportedAccess
  | .hardReset => .next (resetBlock s)

/-- Taking the host's next access off the list; what the last one returned is gone. -/
def takeAccess (rest : List Access) (s : State) : State := { s with pending := rest, answer := none }

end Sys2Proof.Machine
end

