-- ==== Sys2Proof/Machine/Step.lean ====
section
/-! DEFINITION. The one step relation (10_state.md R22): the host performs its next window access; a CMD write includes the whole
command. With no access to perform the block is idle and holds all state (R345). -/

namespace Sys2Proof.Machine

/-- One step (R22). -/
def step (s : State) : Host.Outcome State Fault Refusal :=
  match s.pending with
  | [] => .next s
  | a :: rest => access a (takeAccess rest s)

/-- `s` with the command word `w` as the host's next write to CMD (R40): there is no program counter and no stored program (R36), so
this is where the next instruction comes from (log entry 1). -/
def State.withFetchWord (s : State) (nbits w : Nat) : State :=
  { s with pending := .write 4 0x004 (BitVec.ofNat 32 (w % 2 ^ nbits)) :: s.pending }

end Sys2Proof.Machine
end

