-- ==== Sys2Proof/Safety.lean ====
section
/-! DEFINITION. The terms claims are stated in: the bounds on limb vectors, the curve equations, what a command may write, which error it
raises, the invariants of the state, and the opcode table as data. None of it is used by the step. -/

namespace Sys2Proof.Machine

/-! ## Bounds on limb vectors (00_scope.md R12, 40_field.md R121) -/

/-- Every limb at most `m`. -/
abbrev Limbs.le (l : Limbs) (m0 m : Nat) : Prop :=
  l.l0.toNat ≤ m0 ∧ l.l1.toNat ≤ m ∧ l.l2.toNat ≤ m ∧ l.l3.toNat ≤ m ∧ l.l4.toNat ≤ m

/-- `tight` (R12). -/
abbrev tight (l : Limbs) : Prop := l.le (2 ^ 51 + 2 ^ 13 * 19) (2 ^ 51 - 1)

/-- `loose` (R12). -/
abbrev loose (l : Limbs) : Prop := l.le (2 ^ 52 - 1) (2 ^ 52 - 1)

/-- `canonical` (R12). -/
abbrev canonical (l : Limbs) : Prop := l.le (2 ^ 51 - 1) (2 ^ 51 - 1) ∧ val l < fieldP

/-- `subok` (R121). -/
abbrev subok (l : Limbs) : Prop := l.le (2 ^ 52 - 38) (2 ^ 52 - 2)

/-- `carryok` (R121). -/
abbrev carryok (l : Limbs) : Prop := l.le (2 ^ 64 - 2 ^ 13) (2 ^ 64 - 2 ^ 13)

/-- Inside the domain of every field function: `loose` and `subok` (R121). -/
abbrev inDomain (l : Limbs) : Prop := loose l ∧ subok l

/-! ## Field elements and the curve (R11, R16, R20, R31) -/

/-- The field element a limb vector represents (R11), as an element of `ℤ/p`. -/
def toField (l : Limbs) : ZMod fieldP := (val l : ZMod fieldP)

/-- `d` as a field element (R18). -/
def dField : ZMod fieldP := (curveD : ZMod fieldP)

/-- Both curve equations of R31: `−X²+Y² ≡ Z²+dT²` and `XY ≡ TZ`. -/
def P3.onCurve (q : P3) : Prop :=
  -(toField q.X) ^ 2 + (toField q.Y) ^ 2 = (toField q.Z) ^ 2 + dField * (toField q.T) ^ 2 ∧
    toField q.X * toField q.Y = toField q.T * toField q.Z

/-- Every component inside the domain. -/
abbrev P3.inDomain (q : P3) : Prop :=
  Machine.inDomain q.X ∧ Machine.inDomain q.Y ∧ Machine.inDomain q.Z ∧ Machine.inDomain q.T

/-- Every component inside the domain. -/
abbrev P2.inDomain (q : P2) : Prop := Machine.inDomain q.X ∧ Machine.inDomain q.Y ∧ Machine.inDomain q.Z

/-- Every component inside the domain. -/
abbrev P1xP1.inDomain (q : P1xP1) : Prop :=
  Machine.inDomain q.X ∧ Machine.inDomain q.Y ∧ Machine.inDomain q.Z ∧ Machine.inDomain q.T

/-- Every component inside the domain. -/
abbrev ProjCached.inDomain (q : ProjCached) : Prop :=
  Machine.inDomain q.YpX ∧ Machine.inDomain q.YmX ∧ Machine.inDomain q.Z ∧ Machine.inDomain q.T2d

/-- Every component inside the domain. -/
abbrev AffineCached.inDomain (q : AffineCached) : Prop :=
  Machine.inDomain q.YpX ∧ Machine.inDomain q.YmX ∧ Machine.inDomain q.T2d

/-! ## What a command writes (the destinations of R140 to R313) -/

/-- The registers and buffers a command may write; LASTERR and ERRSTICKY are separate (R322). -/
structure Writes where
  F : List (Fin 32) := []
  S : List (Fin 8) := []
  P : List (Fin 16) := []
  J : List (Fin 4) := []
  C : List (Fin 4) := []
  Q : List (Fin 8) := []
  A : List (Fin 8) := []
  LT : List (Fin 8) := []
  AT : List (Fin 2) := []
  NT : List (Fin 8) := []
  DG : List (Fin 8) := []
  K : List (Fin 8) := []
  IO : List (Fin 4) := []
  deriving DecidableEq, Repr

/-- The destinations each command's rule names, and no other. -/
def writes : Instr → Writes
  | .nop => {}
  | .kset d _ => { K := [d] }
  | .dgst n _ _ => { IO := [n] }
  | .xget d _ => { F := [d] }
  | .fldc d _ | .fmov d _ | .fadd d _ _ | .fsub d _ _ | .fneg d _ | .fmul d _ _ | .fsqr d _ | .fmul32 d _ => { F := [d] }
  | .fcarry d _ | .freduce d _ | .finv d _ | .fpow d _ | .fsel d _ _ _ | .fcneg d _ _ | .fsetb d _ | .fldl d _ => { F := [d] }
  | .fsqrtr d k _ _ => { F := [d], K := [k] }
  | .fisneg k _ | .feq k _ _ | .seq k _ _ | .peq k _ _ => { K := [k] }
  | .fswap a b _ => { F := [a, b] }
  | .fgetb n _ | .fstl n _ | .sgetb n _ | .pgetb n _ | .pgetm n _ => { IO := [n] }
  | .smov d _ | .sadd d _ _ | .ssub d _ _ | .sneg d _ | .smul d _ _ | .sinv d _ => { S := [d] }
  | .ssetc d _ | .ssetu d _ | .ssetcl d _ => { S := [d] }
  | .srdx16 g _ | .snaf g _ _ => { DG := [g] }
  | .jfromp d _ | .jfromc d _ => { J := [d] }
  | .pfromc d _ => { P := [d] }
  | .qfromp d _ | .ltsel d _ _ _ | .ltseli d _ _ | .ntsel d _ _ => { Q := [d] }
  | .afromp d _ | .atsel d _ _ _ | .atseli d _ _ | .btsel d _ _ _ | .btseli d _ _ | .bnsel d _ => { A := [d] }
  | .cadd d _ _ | .csub d _ _ | .cadda d _ _ | .csuba d _ _ | .cdbl d _ => { C := [d] }
  | .ltbuild d _ => { LT := [d] }
  | .atbuild d _ => { AT := [d] }
  | .ntbuild d _ => { NT := [d] }
  | .pident d | .pgen d | .pmov d _ | .psetb d _ | .padd d _ _ | .psub d _ _ | .pneg d _ | .pmul8 d _ | .pmull d _ => { P := [d] }
  | .psetext d _ | .psmul d _ _ | .pbmul d _ | .pvdsbm d _ _ _ | .pmsm d _ _ _ | .pvmsm d _ _ _ => { P := [d] }
  | .pext d _ => { F := [quadReg d 0, quadReg d 1, quadReg d 2, quadReg d 3] }

/-- Window offset `a` is one of the 64 data bytes of a buffer in `l` (R62). -/
abbrev inBuffers (l : List (Fin 4)) (a : Nat) : Prop := ∃ n ∈ l, ioOffset n 0 ≤ a ∧ a < ioOffset n 0 + 64

/-- `t` is `s` but for the destinations `w`, LASTERR and ERRSTICKY: every other register with its tag, every other buffer byte and
length, ARG, CMDCNT and the host's port are as they were. -/
structure SameExcept (w : Writes) (s t : State) : Prop where
  F : ∀ i, i ∉ w.F → t.F[i] = s.F[i]
  S : ∀ i, i ∉ w.S → t.S[i] = s.S[i]
  P : ∀ i, i ∉ w.P → t.P[i] = s.P[i]
  J : ∀ i, i ∉ w.J → t.J[i] = s.J[i]
  C : ∀ i, i ∉ w.C → t.C[i] = s.C[i]
  Q : ∀ i, i ∉ w.Q → t.Q[i] = s.Q[i]
  A : ∀ i, i ∉ w.A → t.A[i] = s.A[i]
  LT : ∀ i, i ∉ w.LT → t.LT[i] = s.LT[i]
  AT : ∀ i, i ∉ w.AT → t.AT[i] = s.AT[i]
  NT : ∀ i, i ∉ w.NT → t.NT[i] = s.NT[i]
  DG : ∀ i, i ∉ w.DG → t.DG[i] = s.DG[i]
  K : ∀ i, i ∉ w.K → t.K[i] = s.K[i]
  IOLEN : ∀ i, i ∉ w.IO → t.IOLEN[i] = s.IOLEN[i]
  IO : ∀ a, ¬ inBuffers w.IO a → t.IO.read a = s.IO.read a
  ARG : t.ARG = s.ARG
  CMDCNT : t.CMDCNT = s.CMDCNT
  pending : t.pending = s.pending
  answer : t.answer = s.answer

/-! ## Which error a command raises (60_exceptions.md R321 to R333) -/

/-- The tags of the table registers a command reads (R331). -/
def tableTags (i : Instr) (s : State) : List Bool :=
  match i with
  | .ltsel _ a _ _ | .ltseli _ a _ => [s.LT[a].tag]
  | .atsel _ a _ _ | .atseli _ a _ => [s.AT[a].tag]
  | .ntsel _ a _ => [s.NT[a].tag]
  | _ => []

/-- The tags of the P, J, C, Q and A registers a command reads (R328), in the order of R323. -/
def pointTags (i : Instr) (s : State) : List Bool :=
  match i with
  | .xget _ (.ofP r _) => [s.P[r].tag]
  | .xget _ (.ofJ r _) => [s.J[r].tag]
  | .xget _ (.ofC r _) => [s.C[r].tag]
  | .xget _ (.ofQ r _) => [s.Q[r].tag]
  | .xget _ (.ofA r _) => [s.A[r].tag]
  | .jfromp _ a | .qfromp _ a | .afromp _ a | .ltbuild _ a | .atbuild _ a | .ntbuild _ a | .pmov _ a => [s.P[a].tag]
  | .pgetb _ a | .pgetm _ a | .pneg _ a | .pmul8 _ a | .pmull _ a | .pext _ a | .psmul _ _ a | .pvdsbm _ _ a _ => [s.P[a].tag]
  | .jfromc _ a | .pfromc _ a => [s.C[a].tag]
  | .cadd _ a b | .csub _ a b => [s.P[a].tag, s.Q[b].tag]
  | .cadda _ a b | .csuba _ a b => [s.P[a].tag, s.A[b].tag]
  | .cdbl _ a => [s.J[a].tag]
  | .padd _ a b | .psub _ a b | .peq _ a b => [s.P[a].tag, s.P[b].tag]
  | .pmsm _ _ b n | .pvmsm _ _ b n => (List.finRange 16).filterMap fun k => if b ≤ k ∧ k.val < b.val + n then some s.P[k].tag else none
  | _ => []

/-- The buffer a command reads, the length it needs and the error a wrong length raises (R67, R324, R325, R332). -/
def lengthNeed : Instr → Option (Fin 4 × Nat × CmdError)
  | .fsetb _ n | .psetb _ n => some (n, 32, .invalidFieldElementLength)
  | .ssetc _ n | .ssetcl _ n => some (n, 32, .invalidScalarLength)
  | .ssetu _ n => some (n, 64, .invalidScalarLength)
  | .fldl _ n => some (n, 40, .invalidLimbImageLength)
  | _ => none

/-- The length error, if the length is not the required one. -/
def lengthError (i : Instr) (s : State) : Option CmdError :=
  match lengthNeed i with
  | some (n, len, e) => if s.IOLEN[n].toNat = len then none else some e
  | none => none

/-- The data-dependent error (R326, R327, R333). -/
def dataError (i : Instr) (s : State) : Option CmdError :=
  match i with
  | .ltsel _ _ b p | .atsel _ _ b p | .btsel _ _ b p =>
    if -8 ≤ s.DG[b][p].toInt ∧ s.DG[b][p].toInt ≤ 8 then none else some .illegalDigit
  | .ssetc _ n => if leNat (ioBytes n 32 s) < ell then none else some .nonCanonicalScalar
  | .psetb _ n => if (ptSetBytes (ioBytes n 32 s)).isSome then none else some .invalidPointEncoding
  | .psetext _ a => if ptOnCurve (readQuad a s) then none else some .invalidPointEncoding
  | _ => none

/-- The one error a command reports: the first that applies in the order of R323. -/
def errorOf (i : Instr) (s : State) : Option CmdError :=
  if i.wellFormed = false then some .illegalCommand
  else if (tableTags i s).all id = false then some .tableNotBuilt
  else if (pointTags i s).all id = false then some .uninitializedPoint
  else (lengthError i s).or (dataError i s)

/-- Two states a command's length and tag checks cannot tell apart (R372). -/
structure SameTags (s s' : State) : Prop where
  P : ∀ i : Fin 16, s.P[i].tag = s'.P[i].tag
  J : ∀ i : Fin 4, s.J[i].tag = s'.J[i].tag
  C : ∀ i : Fin 4, s.C[i].tag = s'.C[i].tag
  Q : ∀ i : Fin 8, s.Q[i].tag = s'.Q[i].tag
  A : ∀ i : Fin 8, s.A[i].tag = s'.A[i].tag
  LT : ∀ i : Fin 8, s.LT[i].tag = s'.LT[i].tag
  AT : ∀ i : Fin 2, s.AT[i].tag = s'.AT[i].tag
  NT : ∀ i : Fin 8, s.NT[i].tag = s'.NT[i].tag
  IOLEN : s.IOLEN = s'.IOLEN

/-- No tag of `s` is cleared in `t` (R30, R367). -/
structure TagsKept (s t : State) : Prop where
  P : ∀ i : Fin 16, s.P[i].tag = true → t.P[i].tag = true
  J : ∀ i : Fin 4, s.J[i].tag = true → t.J[i].tag = true
  C : ∀ i : Fin 4, s.C[i].tag = true → t.C[i].tag = true
  Q : ∀ i : Fin 8, s.Q[i].tag = true → t.Q[i].tag = true
  A : ∀ i : Fin 8, s.A[i].tag = true → t.A[i].tag = true
  LT : ∀ i : Fin 8, s.LT[i].tag = true → t.LT[i].tag = true
  AT : ∀ i : Fin 2, s.AT[i].tag = true → t.AT[i].tag = true
  NT : ∀ i : Fin 8, s.NT[i].tag = true → t.NT[i].tag = true

/-! ## Invariants -/

/-- What holds of every state a run reaches: every scalar is reduced (R25), LASTERR holds a code that can be raised (R321, R329), only
live ERRSTICKY bits are set and never bit 6 (R43, R329), and the buffers' bytes are in canonical form. -/
structure Inv (s : State) : Prop where
  scalars : ∀ i : Fin 8, s.S[i].toNat < ell
  lastErr : s.LASTERR.toNat ≤ 10 ∧ s.LASTERR ≠ 6
  sticky : s.ERRSTICKY &&& ~~~(0x7BE : Word32) = 0
  buffers : Memory.wf s.IO

/-- Every limb vector the block holds is inside the domain of the field functions (R121, closure). -/
structure BoundsInv (s : State) : Prop where
  F : ∀ i : Fin 32, inDomain s.F[i]
  P : ∀ i : Fin 16, s.P[i].val.inDomain
  J : ∀ i : Fin 4, s.J[i].val.inDomain
  C : ∀ i : Fin 4, s.C[i].val.inDomain
  Q : ∀ i : Fin 8, s.Q[i].val.inDomain
  A : ∀ i : Fin 8, s.A[i].val.inDomain
  LT : ∀ (i : Fin 8) (j : Fin 8), s.LT[i].val[j].inDomain
  AT : ∀ (i : Fin 2) (j : Fin 8), s.AT[i].val[j].inDomain
  NT : ∀ (i : Fin 8) (j : Fin 8), s.NT[i].val[j].inDomain

/-- Every initialised P register is inside the domain and satisfies both curve equations (R31, R283). -/
abbrev PointsInv (s : State) : Prop := ∀ i : Fin 16, s.P[i].tag = true → s.P[i].val.inDomain ∧ s.P[i].val.onCurve

/-- A buffer holds exactly the byte string `b`: its length, its bytes from byte 0, and zeros up to byte 63 (R14, R67). -/
def bufferHolds (t : State) (n : Fin 4) (b : List Byte) : Prop :=
  t.IOLEN[n].toNat = b.length ∧ ∀ k < 64, t.IO.read (ioOffset n k) = b.getD k 0

/-- The reserved offsets of the window (R63). -/
def reservedOffset (off : Nat) : Bool :=
  (decide (0x024 ≤ off) && decide (off < 0x100)) || (decide (0x144 ≤ off) && decide (off < 0x180)) ||
    (decide (0x1C4 ≤ off) && decide (off < 0x200)) || (decide (0x244 ≤ off) && decide (off < 0x280)) ||
    (decide (0x2C4 ≤ off) && decide (off < 0x1000))

/-- A negated projCached value (R235): YpX and YmX exchanged, T2d negated. -/
def negCached (e : ProjCached) : ProjCached := ⟨e.YmX, e.YpX, e.Z, feNeg e.T2d⟩

/-- A negated affineCached value (R236). -/
def negAffine (e : AffineCached) : AffineCached := ⟨e.YmX, e.YpX, feNeg e.T2d⟩

/-! ## Digits (41_scalar.md R175, R176) -/

/-- The digits of a digit register as integers. -/
def digits (t : State) (g : Fin 8) : List Int := t.DG[g].toList.map BitVec.toInt

/-- `sum d_i · base^i`. -/
def digitSum (base : Int) : List Int → Int
  | [] => 0
  | d :: ds => d + base * digitSum base ds

/-! ## The loops of the composite point commands, position by position (44_point.md R271, R275 to R280)

Each relation says that `r` is what the rule's loop leaves: there are values of the loop's variables, one per position, that start and
step as the rule writes, and `r` is made from the last. The values are determined by the ones before them, so at most one `r` fits. -/

/-- Digit `i` of a radix-16 recoding, as the byte the selections take (R175, R234). -/
def radix16Byte (s i : Nat) : Byte := BitVec.ofInt 8 ((scRadix16 s).getD i 0)

/-- PMULL (R271): bits 251 down to 0 of `ℓ`, doubling at each and adding the point where the bit is 1. -/
def MullRun (u r : P3) : Prop :=
  ∃ acc : Nat → P3, acc 252 = u ∧ r = acc 0 ∧
    ∀ i < 252, acc i =
      if ell.testBit i then p3FromC (ptCadd (p3FromC (ptCdbl (p2FromP3 (acc (i + 1))))) (qFromP3 u))
      else p3FromC (ptCdbl (p2FromP3 (acc (i + 1))))

/-- Four doublings, through P2 between them (R274). -/
def Mul16Run (v r : P3) : Prop :=
  r = p3FromC (ptCdbl (p2FromC (ptCdbl (p2FromC (ptCdbl (p2FromC (ptCdbl (p2FromP3 v))))))))

/-- PSMUL (R275, R276): the lookup of digit 63 added to the identity, then for positions 62 down to 0 times 16 and the lookup added. -/
def SmulRun (s : Nat) (q r : P3) : Prop :=
  ∃ acc m : Nat → P3, acc 63 = p3FromC (ptCadd ptIdent (ltSel (ltBuild q) (radix16Byte s 63))) ∧ r = acc 0 ∧
    ∀ i < 63, Mul16Run (acc (i + 1)) (m i) ∧ acc i = p3FromC (ptCadd (m i) (ltSel (ltBuild q) (radix16Byte s i)))

/-- PBMUL (R277): the odd digits from the ROM's rows, times 16, then the even digits. -/
def BmulRun (s : Nat) (r : P3) : Prop :=
  ∃ odd even : Nat → P3, odd 0 = ptIdent ∧ Mul16Run (odd 32) (even 0) ∧ r = even 32 ∧
    ∀ k : Fin 32, odd (k.val + 1) = p3FromC (ptCadda (odd k.val) (atSel BPT[k] (radix16Byte s (2 * k.val + 1)))) ∧
      even (k.val + 1) = p3FromC (ptCadda (even k.val) (atSel BPT[k] (radix16Byte s (2 * k.val))))

/-- One NAF digit (R278, R280): a positive one adds its odd multiple from the table, a negative one subtracts it, zero does nothing. -/
def NafStep (t : ProjTable) (x : Int) (c c' : P1xP1) : Prop :=
  (0 < x → c' = ptCadd (p3FromC c) (ntSel t x.toNat)) ∧ (x < 0 → c' = ptCsub (p3FromC c) (ntSel t (-x).toNat)) ∧ (x = 0 → c' = c)

/-- The same with the generator's odd multiples (R278). -/
def NafBaseStep (x : Int) (c c' : P1xP1) : Prop :=
  (0 < x → c' = ptCadda (p3FromC c) (bntSel x.toNat)) ∧ (x < 0 → c' = ptCsuba (p3FromC c) (bntSel (-x).toNat)) ∧ (x = 0 → c' = c)

/-- PVDSBM (R278): positions 255 down to 0, at each a doubling, the digit of `a` and the digit of `b`; through P2 between positions. -/
def VdsbmRun (a : Nat) (u : P3) (b : Nat) (r : P3) : Prop :=
  ∃ (j : Nat → P2) (c c' : Nat → P1xP1), j 255 = jIdent ∧ r = p3FromC (c' 0) ∧ (∀ i < 255, j i = p2FromC (c' (i + 1))) ∧
    ∀ i < 256, NafStep (ntBuild u) ((scNaf a 5).getD i 0) (ptCdbl (j i)) (c i) ∧ NafBaseStep ((scNaf b 8).getD i 0) (c i) (c' i)

/-- PMSM (R279) of `n` scalars and points: positions 63 down to 0, at each times 16 and then every pair's lookup added in order.
`acc i k` is the accumulator at position `i` after `k` pairs. -/
def MsmRun (n : Nat) (s : Fin n → Nat) (q : Fin n → P3) (r : P3) : Prop :=
  ∃ acc : Nat → Nat → P3, acc 64 n = ptIdent ∧ r = acc 0 n ∧
    ∀ i < 64, Mul16Run (acc (i + 1) n) (acc i 0) ∧
      ∀ k : Fin n, acc i (k.val + 1) = p3FromC (ptCadd (acc i k.val) (ltSel (ltBuild (q k)) (radix16Byte (s k) i)))

/-- PVMSM (R280) of `n` scalars and points: positions 255 down to 0, at each a doubling and every pair's width-5 NAF digit in order. -/
def VmsmRun (n : Nat) (s : Fin n → Nat) (q : Fin n → P3) (r : P3) : Prop :=
  ∃ (j : Nat → P2) (c : Nat → Nat → P1xP1), j 255 = jIdent ∧ r = p3FromC (c 0 n) ∧ (∀ i < 255, j i = p2FromC (c (i + 1) n)) ∧
    ∀ i < 256, c i 0 = ptCdbl (j i) ∧
      ∀ k : Fin n, NafStep (ntBuild (q k)) ((scNaf (s k) 5).getD i 0) (c i k.val) (c i (k.val + 1))

/-! ## The opcode table (30_encoding.md R96) -/

/-- A row of R96: the mnemonic, `match` and `mask`. -/
structure OpcodeRow where
  mnemonic : String
  pattern : Word32
  mask : Word32
  deriving DecidableEq, Repr

/-- Rows of R96, part 1. -/
def opcodeRows1 : List OpcodeRow := [
  ⟨"NOP", 0x00000000, 0xFFFFFFFF⟩,
  ⟨"KSET", 0x01000000, 0xFFC7FFFE⟩,
  ⟨"DGST", 0x03000000, 0xFFE63FFC⟩,
  ⟨"XGET", 0x04000000, 0xFF0001FC⟩,
  ⟨"FLDC", 0x10000000, 0xFF07FFF8⟩,
  ⟨"FMOV", 0x11000000, 0xFF003FFF⟩,
  ⟨"FADD", 0x12000000, 0xFF0001FF⟩,
  ⟨"FSUB", 0x13000000, 0xFF0001FF⟩,
  ⟨"FNEG", 0x14000000, 0xFF003FFF⟩,
  ⟨"FMUL", 0x15000000, 0xFF0001FF⟩,
  ⟨"FSQR", 0x16000000, 0xFF003FFF⟩,
  ⟨"FMUL32", 0x17000000, 0xFF003FFF⟩,
  ⟨"FCARRY", 0x18000000, 0xFF003FFF⟩,
  ⟨"FREDUCE", 0x19000000, 0xFF003FFF⟩,
  ⟨"FINV", 0x1A000000, 0xFF003FFF⟩,
  ⟨"FPOW", 0x1B000000, 0xFF003FFF⟩,
  ⟨"FSQRTR", 0x1C000000, 0xFF0001F8⟩,
  ⟨"FISNEG", 0x1D000000, 0xFFC03FFF⟩,
  ⟨"FEQ", 0x1E000000, 0xFFC001FF⟩,
  ⟨"FSEL", 0x1F000000, 0xFF0001F8⟩]

/-- Rows of R96, part 2. -/
def opcodeRows2 : List OpcodeRow := [
  ⟨"FSWAP", 0x20000000, 0xFF003FF8⟩,
  ⟨"FCNEG", 0x21000000, 0xFF003FF8⟩,
  ⟨"FSETB", 0x24000000, 0xFF073FFF⟩,
  ⟨"FGETB", 0x25000000, 0xFFE03FFF⟩,
  ⟨"FLDL", 0x26000000, 0xFF073FFF⟩,
  ⟨"FSTL", 0x27000000, 0xFFE03FFF⟩,
  ⟨"SMOV", 0x30000000, 0xFFC63FFF⟩,
  ⟨"SADD", 0x31000000, 0xFFC631FF⟩,
  ⟨"SSUB", 0x32000000, 0xFFC631FF⟩,
  ⟨"SNEG", 0x33000000, 0xFFC63FFF⟩,
  ⟨"SMUL", 0x34000000, 0xFFC631FF⟩,
  ⟨"SINV", 0x35000000, 0xFFC63FFF⟩,
  ⟨"SEQ", 0x36000000, 0xFFC631FF⟩,
  ⟨"SSETC", 0x37000000, 0xFFC73FFF⟩,
  ⟨"SSETU", 0x38000000, 0xFFC73FFF⟩,
  ⟨"SSETCL", 0x39000000, 0xFFC73FFF⟩,
  ⟨"SGETB", 0x3A000000, 0xFFE63FFF⟩,
  ⟨"SRDX16", 0x3B000000, 0xFFC63FFF⟩,
  ⟨"SNAF", 0x3C000000, 0xFFC63FF0⟩,
  ⟨"JFROMP", 0x40000000, 0xFFE43FFF⟩]

/-- Rows of R96, part 3. -/
def opcodeRows3 : List OpcodeRow := [
  ⟨"JFROMC", 0x41000000, 0xFFE73FFF⟩,
  ⟨"PFROMC", 0x42000000, 0xFF873FFF⟩,
  ⟨"QFROMP", 0x43000000, 0xFFC43FFF⟩,
  ⟨"AFROMP", 0x44000000, 0xFFC43FFF⟩,
  ⟨"CADD", 0x45000000, 0xFFE431FF⟩,
  ⟨"CSUB", 0x46000000, 0xFFE431FF⟩,
  ⟨"CADDA", 0x47000000, 0xFFE431FF⟩,
  ⟨"CSUBA", 0x48000000, 0xFFE431FF⟩,
  ⟨"CDBL", 0x49000000, 0xFFE73FFF⟩,
  ⟨"LTBUILD", 0x50000000, 0xFFC43FFF⟩,
  ⟨"LTSEL", 0x51000000, 0xFFC63100⟩,
  ⟨"LTSELI", 0x52000000, 0xFFC63E00⟩,
  ⟨"ATBUILD", 0x53000000, 0xFFF43FFF⟩,
  ⟨"ATSEL", 0x54000000, 0xFFC7B100⟩,
  ⟨"ATSELI", 0x55000000, 0xFFC7BE00⟩,
  ⟨"BTSEL", 0x56000000, 0xFFC03100⟩,
  ⟨"BTSELI", 0x57000000, 0xFFC03E00⟩,
  ⟨"NTBUILD", 0x58000000, 0xFFC43FFF⟩,
  ⟨"NTSEL", 0x59000000, 0xFFC63FF0⟩,
  ⟨"BNSEL", 0x5A000000, 0xFFC7FF80⟩]

/-- Rows of R96, part 4. -/
def opcodeRows4 : List OpcodeRow := [
  ⟨"PIDENT", 0x60000000, 0xFF87FFFF⟩,
  ⟨"PGEN", 0x61000000, 0xFF87FFFF⟩,
  ⟨"PMOV", 0x62000000, 0xFF843FFF⟩,
  ⟨"PSETB", 0x63000000, 0xFF873FFF⟩,
  ⟨"PGETB", 0x64000000, 0xFFE43FFF⟩,
  ⟨"PGETM", 0x65000000, 0xFFE43FFF⟩,
  ⟨"PADD", 0x66000000, 0xFF8421FF⟩,
  ⟨"PSUB", 0x67000000, 0xFF8421FF⟩,
  ⟨"PNEG", 0x68000000, 0xFF843FFF⟩,
  ⟨"PEQ", 0x69000000, 0xFFC421FF⟩,
  ⟨"PMUL8", 0x6A000000, 0xFF843FFF⟩,
  ⟨"PMULL", 0x6B000000, 0xFF843FFF⟩,
  ⟨"PEXT", 0x6C000000, 0xFF043FFF⟩,
  ⟨"PSETEXT", 0x6D000000, 0xFF803FFF⟩,
  ⟨"PSMUL", 0x70000000, 0xFF8621FF⟩,
  ⟨"PBMUL", 0x71000000, 0xFF863FFF⟩,
  ⟨"PVDSBM", 0x72000000, 0xFF8621F8⟩,
  ⟨"PMSM", 0x73000000, 0xFF8621F0⟩,
  ⟨"PVMSM", 0x74000000, 0xFF8621F0⟩]

/-- The 79 rows of R96. -/
def opcodeRows : List OpcodeRow := opcodeRows1 ++ opcodeRows2 ++ opcodeRows3 ++ opcodeRows4

/-- XGET's register count of a class (R102). -/
def classRegs : Nat → Nat
  | 0 => 16
  | 1 => 4
  | 2 => 4
  | 3 => 8
  | 4 => 8
  | _ => 0

/-- XGET's component count of a class (R102). -/
def classComps : Nat → Nat
  | 1 => 3
  | 4 => 3
  | _ => 4

/-- The column "further constraints" of R96. -/
def further (f : Fields) : Bool :=
  match f.opc with
  | 0x04 => decide (f.rb ≤ 4) && decide (f.rc < classRegs f.rb) && decide (f.imm < classComps f.rb)
  | 0x10 => decide (f.imm ≤ 4)
  | 0x3C => f.imm == 5 || f.imm == 8
  | 0x52 | 0x55 | 0x57 => decide (-8 ≤ sextImm f.imm) && decide (sextImm f.imm ≤ 8)
  | 0x59 => f.imm % 2 == 1 && decide (f.imm ≤ 15)
  | 0x5A => f.imm % 2 == 1 && decide (f.imm ≤ 127)
  | 0x6C => decide (f.ra ≤ 28)
  | 0x6D => decide (f.rb ≤ 28)
  | 0x73 | 0x74 => decide (f.imm ≤ 8) && decide (f.rb + f.imm ≤ 8) && decide (f.rc + f.imm ≤ 16)
  | _ => true

/-- `(w & mask) == match` and the row's further constraints (R93, R98). -/
def OpcodeRow.covers (r : OpcodeRow) (w : Word32) : Bool := w &&& r.mask == r.pattern && further (fieldsOf w)

/-- A command's mnemonic. -/
def mnemonicOf : Instr → String
  | .nop => "NOP"
  | .kset _ _ => "KSET"
  | .dgst _ _ _ => "DGST"
  | .xget _ _ => "XGET"
  | .fldc _ _ => "FLDC"
  | .fmov _ _ => "FMOV"
  | .fadd _ _ _ => "FADD"
  | .fsub _ _ _ => "FSUB"
  | .fneg _ _ => "FNEG"
  | .fmul _ _ _ => "FMUL"
  | .fsqr _ _ => "FSQR"
  | .fmul32 _ _ => "FMUL32"
  | .fcarry _ _ => "FCARRY"
  | .freduce _ _ => "FREDUCE"
  | .finv _ _ => "FINV"
  | .fpow _ _ => "FPOW"
  | .fsqrtr _ _ _ _ => "FSQRTR"
  | .fisneg _ _ => "FISNEG"
  | .feq _ _ _ => "FEQ"
  | .fsel _ _ _ _ => "FSEL"
  | .fswap _ _ _ => "FSWAP"
  | .fcneg _ _ _ => "FCNEG"
  | .fsetb _ _ => "FSETB"
  | .fgetb _ _ => "FGETB"
  | .fldl _ _ => "FLDL"
  | .fstl _ _ => "FSTL"
  | .smov _ _ => "SMOV"
  | .sadd _ _ _ => "SADD"
  | .ssub _ _ _ => "SSUB"
  | .sneg _ _ => "SNEG"
  | .smul _ _ _ => "SMUL"
  | .sinv _ _ => "SINV"
  | .seq _ _ _ => "SEQ"
  | .ssetc _ _ => "SSETC"
  | .ssetu _ _ => "SSETU"
  | .ssetcl _ _ => "SSETCL"
  | .sgetb _ _ => "SGETB"
  | .srdx16 _ _ => "SRDX16"
  | .snaf _ _ _ => "SNAF"
  | .jfromp _ _ => "JFROMP"
  | .jfromc _ _ => "JFROMC"
  | .pfromc _ _ => "PFROMC"
  | .qfromp _ _ => "QFROMP"
  | .afromp _ _ => "AFROMP"
  | .cadd _ _ _ => "CADD"
  | .csub _ _ _ => "CSUB"
  | .cadda _ _ _ => "CADDA"
  | .csuba _ _ _ => "CSUBA"
  | .cdbl _ _ => "CDBL"
  | .ltbuild _ _ => "LTBUILD"
  | .ltsel _ _ _ _ => "LTSEL"
  | .ltseli _ _ _ => "LTSELI"
  | .atbuild _ _ => "ATBUILD"
  | .atsel _ _ _ _ => "ATSEL"
  | .atseli _ _ _ => "ATSELI"
  | .btsel _ _ _ _ => "BTSEL"
  | .btseli _ _ _ => "BTSELI"
  | .ntbuild _ _ => "NTBUILD"
  | .ntsel _ _ _ => "NTSEL"
  | .bnsel _ _ => "BNSEL"
  | .pident _ => "PIDENT"
  | .pgen _ => "PGEN"
  | .pmov _ _ => "PMOV"
  | .psetb _ _ => "PSETB"
  | .pgetb _ _ => "PGETB"
  | .pgetm _ _ => "PGETM"
  | .padd _ _ _ => "PADD"
  | .psub _ _ _ => "PSUB"
  | .pneg _ _ => "PNEG"
  | .peq _ _ _ => "PEQ"
  | .pmul8 _ _ => "PMUL8"
  | .pmull _ _ => "PMULL"
  | .pext _ _ => "PEXT"
  | .psetext _ _ => "PSETEXT"
  | .psmul _ _ _ => "PSMUL"
  | .pbmul _ _ => "PBMUL"
  | .pvdsbm _ _ _ _ => "PVDSBM"
  | .pmsm _ _ _ _ => "PMSM"
  | .pvmsm _ _ _ _ => "PVMSM"

/-! ## Constant-time classes (44_point.md R281) -/

/-- The commands that may take variable time: PVDSBM, PVMSM, NTSEL, BNSEL, SNAF. The obligation is about time, which the model leaves
out; the classification is kept as data. -/
def varTime (i : Instr) : Bool := mnemonicOf i ∈ ["PVDSBM", "PVMSM", "NTSEL", "BNSEL", "SNAF"]

end Sys2Proof.Machine
end

