-- ==== Sys2Proof/Certificates/Slice0/Obligations.lean ====
section
/-! DEFINITION. The statements for the provers, one per obligation of OBLIGATIONS.json, grouped as the spec's files are. -/

open Sys2Proof Sys2Proof.Machine

/-! ## Encoding (30_encoding.md) -/

/-- Decoding the word of a well-formed command gives the command back, whatever its operands (R91, R96). -/
def Obligations.DecodeEncode : Prop :=
  ∀ i : Instr, i.wellFormed = true → decode (encode i) = .ok i

/-- R98 whole: the decoder accepts exactly the words some row of R96 covers; what it accepts is a well-formed command of that row,
whose fields are the word's fields; and two different legal words are two different commands. -/
def Obligations.OpcodeTable : Prop :=
  (∀ w, (∃ i, decode w = .ok i) ↔ ∃ r ∈ opcodeRows, r.covers w = true) ∧
  (∀ w i, decode w = .ok i →
    i.wellFormed = true ∧ encode i = w ∧ ∃ r ∈ opcodeRows, r.mnemonic = mnemonicOf i ∧ r.covers w = true) ∧
  (∀ w w' i, decode w = .ok i → decode w' = .ok i → w = w')

/-- A few words R105 works out by hand. -/
def Obligations.WorkedEncodings : Prop :=
  decode 0x00000000 = .ok .nop ∧ decode 0x12184400 = .ok (.fadd 3 1 2) ∧ decode 0x1C298E02 = .ok (.fsqrtr 5 2 6 7) ∧
  decode 0x10480004 = .ok (.fldc 9 .sqrtm1) ∧ decode 0x520881FD = .ok (.ltseli 1 2 (-3)) ∧
  decode 0x5100023F = .ok (.ltsel 0 0 1 63) ∧ decode 0x573FC1F8 = .ok (.btseli 7 31 (-8))

/-! ## The step and the window (10_state.md, 20_memory.md) -/

/-- A write of a legal word to CMD runs the decoded command, after the access is taken off the host's list and the command is
counted. The host's port and the place of the next word are the model's own (log entries 1 and 2). -/
def Obligations.StepRunsDecoded : Prop :=
  (∀ (s : State) (w : Word32) (rest : List Access) (i : Instr),
    s.pending = .write 4 0x004 w :: rest → decode w = .ok i →
    step s = exec i { s with pending := rest, answer := none, CMDCNT := s.CMDCNT + 1 }) ∧
  (∀ (s : State) (w : Word32), (s.withFetchWord 32 w.toNat).pending = .write 4 0x004 w :: s.pending)

/-- A write of an illegal word to CMD is counted, raises IllegalCommand and changes nothing else (R97, R330). -/
def Obligations.StepIllegalWord : Prop :=
  ∀ (s : State) (w : Word32) (rest : List Access) (e : Illegal),
    s.pending = .write 4 0x004 w :: rest → decode w = .error e →
    step s = .next { s with
      pending := rest, answer := none, CMDCNT := s.CMDCNT + 1, LASTERR := 7, ERRSTICKY := s.ERRSTICKY ||| 0x80 }

/-- An accepted read returns the word and changes no state of the block (R66). -/
def Obligations.ReadHasNoEffect : Prop :=
  ∀ (s : State) (off : Nat) (rest : List Access),
    s.pending = .read 4 off :: rest → off < 0x1000 → off % 4 = 0 →
    step s = .next { s with pending := rest, answer := some (readWord off s) }

/-- With no access to perform the block holds all state (log entry 3); an accepted write performs the write of its offset; an access
outside the window faults and one that is not an aligned 32-bit access is refused (R60, R65, log entries 4 and 5). -/
def Obligations.AccessForms : Prop :=
  (∀ s : State, s.pending = [] → step s = .next s) ∧
  (∀ (s : State) (off : Nat) (v : Word32) (rest : List Access),
    s.pending = .write 4 off v :: rest → off < 0x1000 → off % 4 = 0 →
    step s = writeWord off v { s with pending := rest, answer := none }) ∧
  (∀ (s : State) (bytes off : Nat) (v : Word32) (rest : List Access),
    (s.pending = .read bytes off :: rest ∨ s.pending = .write bytes off v :: rest) → 0x1000 ≤ off →
    step s = .fault .outsideWindow) ∧
  (∀ (s : State) (bytes off : Nat) (v : Word32) (rest : List Access),
    (s.pending = .read bytes off :: rest ∨ s.pending = .write bytes off v :: rest) → off < 0x1000 →
    bytes ≠ 4 ∨ off % 4 ≠ 0 → step s = .refused .unsupportedAccess)

/-- What every offset of the window reads as (R39 to R46, R61 to R64). -/
def Obligations.WindowReadMap : Prop :=
  ∀ s : State,
    readWord 0x000 s = 0x25519007 ∧ readWord 0x004 s = 0 ∧ readWord 0x008 s = (if s.LASTERR = 0 then 0 else 2) ∧
    (∀ i < 32, (readWord 0x00C s).getLsbD i = s.LASTERR.getLsbD i) ∧
    (∀ i < 32, (readWord 0x010 s).getLsbD i = (decide (1 ≤ i ∧ i ≤ 10) && s.ERRSTICKY.getLsbD i)) ∧
    readWord 0x014 s = s.CMDCNT ∧
    (∀ i : Fin 8, (readWord 0x018 s).getLsbD i = s.K[i]) ∧ (∀ i, 8 ≤ i → (readWord 0x018 s).getLsbD i = false) ∧
    readWord 0x01C s = s.ARG ∧ readWord 0x020 s = 0 ∧
    (∀ (n : Fin 4) (k j : Nat), k < 16 → j < 4 →
      (readWord (0x100 + 0x80 * n.val + 4 * k) s).extractLsb' (8 * j) 8 = s.IO.read (ioOffset n (4 * k + j))) ∧
    (∀ n : Fin 4, (readWord (0x140 + 0x80 * n.val) s).toNat = s.IOLEN[n].toNat) ∧
    (∀ off, off % 4 = 0 → reservedOffset off = true → readWord off s = 0)

/-- What a write of every offset of the window but the buffers' data does (R39 to R46, R61 to R63). -/
def Obligations.WindowWriteMap : Prop :=
  ∀ (s : State) (v : Word32),
    writeWord 0x004 v s = command v s ∧
    writeWord 0x010 v s = .next { s with ERRSTICKY := s.ERRSTICKY &&& ~~~v } ∧
    writeWord 0x01C v s = .next { s with ARG := v } ∧
    (v.getLsbD 0 = false → writeWord 0x020 v s = .next s) ∧
    (∀ n : Fin 4, writeWord (0x140 + 0x80 * n.val) v s = .next { s with IOLEN := s.IOLEN.set n (v.extractLsb' 0 7) }) ∧
    (∀ off ∈ [0x000, 0x008, 0x00C, 0x014, 0x018], writeWord off v s = .next s) ∧
    (∀ off, off % 4 = 0 → reservedOffset off = true → writeWord off v s = .next s)

/-- A word written to a buffer: its four bytes in little-endian order, every other byte as it was, the word itself on reading back, and
nothing else changed (R62, R64). -/
def Obligations.BufferWord : Prop :=
  ∀ (s : State) (v : Word32) (n : Fin 4) (k : Nat), k < 16 →
    ∃ t, writeWord (0x100 + 0x80 * n.val + 4 * k) v s = .next t ∧
      (∀ j < 4, t.IO.read (ioOffset n (4 * k + j)) = v.extractLsb' (8 * j) 8) ∧
      (∀ a, a < ioOffset n (4 * k) ∨ ioOffset n (4 * k) + 4 ≤ a → t.IO.read a = s.IO.read a) ∧
      readWord (0x100 + 0x80 * n.val + 4 * k) t = v ∧ { t with IO := s.IO } = s

/-- The hardware reset and a CTRL write with bit 0 set have one effect, and after it every piece of state has the value R51 lists
(R360, R51). The model's own: both resets keep the host's list of accesses to come (log entry 1) and clear its answer (log entry 2), and
the hardware reset is an access of that list (log entry 8). -/
def Obligations.ResetValues : Prop :=
  (∀ s : State, access .hardReset s = .next { State.reset with pending := s.pending }) ∧
  (∀ (s : State) (v : Word32), v.getLsbD 0 = true → writeWord 0x020 v s = .next { State.reset with pending := s.pending }) ∧
  (∀ i : Fin 32, State.reset.F[i] = ⟨0, 0, 0, 0, 0⟩) ∧ (∀ i : Fin 8, State.reset.S[i] = 0) ∧
  (∀ i : Fin 16, State.reset.P[i] = ⟨false, ⟨0, 0, 0, 0, 0⟩, ⟨0, 0, 0, 0, 0⟩, ⟨0, 0, 0, 0, 0⟩, ⟨0, 0, 0, 0, 0⟩⟩) ∧
  (∀ i : Fin 4, State.reset.J[i] = ⟨false, ⟨0, 0, 0, 0, 0⟩, ⟨0, 0, 0, 0, 0⟩, ⟨0, 0, 0, 0, 0⟩⟩) ∧
  (∀ i : Fin 4, State.reset.C[i] = ⟨false, ⟨0, 0, 0, 0, 0⟩, ⟨0, 0, 0, 0, 0⟩, ⟨0, 0, 0, 0, 0⟩, ⟨0, 0, 0, 0, 0⟩⟩) ∧
  (∀ i : Fin 8, State.reset.Q[i] = ⟨false, ⟨0, 0, 0, 0, 0⟩, ⟨0, 0, 0, 0, 0⟩, ⟨0, 0, 0, 0, 0⟩, ⟨0, 0, 0, 0, 0⟩⟩) ∧
  (∀ i : Fin 8, State.reset.A[i] = ⟨false, ⟨0, 0, 0, 0, 0⟩, ⟨0, 0, 0, 0, 0⟩, ⟨0, 0, 0, 0, 0⟩⟩) ∧
  (∀ i j : Fin 8, State.reset.LT[i].tag = false ∧
    State.reset.LT[i].val[j] = ⟨⟨0, 0, 0, 0, 0⟩, ⟨0, 0, 0, 0, 0⟩, ⟨0, 0, 0, 0, 0⟩, ⟨0, 0, 0, 0, 0⟩⟩) ∧
  (∀ (i : Fin 2) (j : Fin 8), State.reset.AT[i].tag = false ∧
    State.reset.AT[i].val[j] = ⟨⟨0, 0, 0, 0, 0⟩, ⟨0, 0, 0, 0, 0⟩, ⟨0, 0, 0, 0, 0⟩⟩) ∧
  (∀ i j : Fin 8, State.reset.NT[i].tag = false ∧
    State.reset.NT[i].val[j] = ⟨⟨0, 0, 0, 0, 0⟩, ⟨0, 0, 0, 0, 0⟩, ⟨0, 0, 0, 0, 0⟩, ⟨0, 0, 0, 0, 0⟩⟩) ∧
  (∀ (i : Fin 8) (j : Fin 256), State.reset.DG[i][j] = 0) ∧ (∀ i : Fin 8, State.reset.K[i] = false) ∧
  (∀ a, State.reset.IO.read a = 0) ∧ (∀ n : Fin 4, State.reset.IOLEN[n] = 0) ∧
  State.reset.ARG = 0 ∧ State.reset.LASTERR = 0 ∧ State.reset.ERRSTICKY = 0 ∧ State.reset.CMDCNT = 0 ∧
  readWord 0x008 State.reset = 0

/-! ## Errors, frames and what a command reads (60_exceptions.md, 70_reset_and_hazards.md) -/

/-- No command stops the block: every CMD write completes, and counts (R44, R320). -/
def Obligations.CommandsComplete : Prop :=
  ∀ (w : Word32) (s : State), ∃ t, command w s = .next t ∧ t.CMDCNT = s.CMDCNT + 1

/-- R322 whole: the count always rises; a command that raises an error leaves everything but LASTERR and its ERRSTICKY bit as it was;
one that completes sets LASTERR to 0 and leaves ERRSTICKY; STATUS.ERR is `LASTERR != 0`. -/
def Obligations.RaiseSemantics : Prop :=
  ∀ (w : Word32) (s t : State), command w s = .next t →
    t.CMDCNT = s.CMDCNT + 1 ∧
    ((t.LASTERR = 0 ∧ t.ERRSTICKY = s.ERRSTICKY) ∨
      (t.LASTERR ≠ 0 ∧ t = { s with
        CMDCNT := s.CMDCNT + 1
        LASTERR := t.LASTERR
        ERRSTICKY := s.ERRSTICKY ||| (1 : Word32) <<< t.LASTERR.toNat })) ∧
    ((readWord 0x008 t).getLsbD 1 = true ↔ t.LASTERR ≠ 0)

/-- The one error a command reports is the first that applies in the order of R323, and without one it completes. -/
def Obligations.ErrorPriority : Prop :=
  ∀ (i : Instr) (s : State),
    (∀ e, errorOf i s = some e →
      exec i s = .next { s with LASTERR := errorCode e, ERRSTICKY := s.ERRSTICKY ||| (1 : Word32) <<< (errorCode e).toNat }) ∧
    (errorOf i s = none → ∃ t, exec i s = .next t ∧ t.LASTERR = 0 ∧ t.ERRSTICKY = s.ERRSTICKY)

/-- R329: code 6 is never raised, and ERRSTICKY bit 6 always reads 0. -/
def Obligations.LengthMismatchNever : Prop :=
  (∀ (w : Word32) (s t : State), command w s = .next t → t.LASTERR ≠ 6) ∧
  (readWord 0x010 State.reset).getLsbD 6 = false ∧
  (∀ s t : State, step s = .next t → (readWord 0x010 s).getLsbD 6 = false → (readWord 0x010 t).getLsbD 6 = false)

/-- The frame of every command: no register, tag, buffer byte or length other than its destinations changes; ARG, CMDCNT and the host's
port do not change. LASTERR and ERRSTICKY are RaiseSemantics'. -/
def Obligations.CommandFrame : Prop :=
  ∀ (i : Instr) (s t : State), exec i s = .next t → SameExcept (writes i) s t

/-- Tags are set-only (R30, R367): no command clears one, a completed command sets its destination's, and only a reset clears them. -/
def Obligations.TagsSetOnly : Prop :=
  (∀ (w : Word32) (s t : State), command w s = .next t → TagsKept s t) ∧
  (∀ (i : Instr) (s t : State), exec i s = .next t → t.LASTERR = 0 →
    (∀ d ∈ (writes i).P, t.P[d].tag = true) ∧ (∀ d ∈ (writes i).J, t.J[d].tag = true) ∧
    (∀ d ∈ (writes i).C, t.C[d].tag = true) ∧ (∀ d ∈ (writes i).Q, t.Q[d].tag = true) ∧
    (∀ d ∈ (writes i).A, t.A[d].tag = true) ∧ (∀ d ∈ (writes i).LT, t.LT[d].tag = true) ∧
    (∀ d ∈ (writes i).AT, t.AT[d].tag = true) ∧ (∀ d ∈ (writes i).NT, t.NT[d].tag = true)) ∧
  (∀ s t : State, step s = .next t → TagsKept s t ∨ t = { State.reset with pending := t.pending })

/-- Which error a command raises depends on the command, the lengths and the tags only, but for NonCanonicalScalar,
InvalidPointEncoding and IllegalDigit (R281, R372). -/
def Obligations.ErrorsFromTags : Prop :=
  ∀ (i : Instr) (s s' t t' : State), SameTags s s' → exec i s = .next t → exec i s' = .next t' → t.LASTERR ≠ t'.LASTERR →
    t.LASTERR ∈ [0, 3, 4, 10] ∧ t'.LASTERR ∈ [0, 3, 4, 10]

/-- FMUL32 is the only command that reads ARG, and no command writes it (R45). -/
def Obligations.ArgIsolation : Prop :=
  ∀ (i : Instr) (s t : State) (v : Word32), (∀ d a, i ≠ .fmul32 d a) → exec i s = .next t →
    exec i { s with ARG := v } = .next { t with ARG := v }

/-- FSEL, FSWAP and FCNEG are the only commands that read a predicate (R37). -/
def Obligations.PredicateIsolation : Prop :=
  ∀ (i : Instr) (s t : State) (k : Fin 8) (b : Bool), (∀ d a b c, i ≠ .fsel d a b c) → (∀ a b c, i ≠ .fswap a b c) →
    (∀ d a c, i ≠ .fcneg d a c) → exec i s = .next t →
    exec i { s with K := s.K.set k b } =
      .next { t with K := if k ∈ (writes i).K ∧ t.LASTERR = 0 then t.K else t.K.set k b }

/-- No command reads the host's port, the counter or the error record (R34 to R37, R44): they pass through. -/
def Obligations.RecordIsolation : Prop :=
  ∀ (i : Instr) (s t : State) (l : List Access) (a : Option Word32) (c : Word32) (e : BitVec 4), exec i s = .next t →
    exec i { s with pending := l, answer := a, CMDCNT := c, LASTERR := e } =
      .next { t with pending := l, answer := a, CMDCNT := c }

/-! ## Invariants -/

/-- Every step keeps the invariant: scalars reduced, LASTERR a code that can be raised, only live ERRSTICKY bits set, the buffers'
bytes in canonical form (R25, R42, R43, R321). -/
def Obligations.StepKeepsInvariant : Prop :=
  ∀ s t : State, Inv s → step s = .next t → Inv t

/-- The reset state meets the three invariants StepKeepsInvariant, DomainClosed and PointsStayOnCurve keep. -/
def Obligations.ResetInvariant : Prop :=
  Inv State.reset ∧ BoundsInv State.reset ∧ PointsInv State.reset

/-- Closure of the exact domain (R121, R369): if every limb vector is in it, it stays so, unless FLDL loads one that is not. -/
def Obligations.DomainClosed : Prop :=
  ∀ (i : Instr) (s t : State), BoundsInv s → (∀ d n, i = .fldl d n → inDomain (limbsOfBytes (ioBytes n 40 s))) →
    exec i s = .next t → BoundsInv t

/-- Points stay on the curve (R31, R283): if every initialised P register satisfies both curve equations with limbs in the domain, so it
is after every command, but for PFROMC, whose source is no P register; PSETEXT's four limb vectors must be in the domain. -/
def Obligations.PointsStayOnCurve : Prop :=
  ∀ (i : Instr) (s t : State), PointsInv s → (∀ d a, i ≠ .pfromc d a) →
    (∀ d a, i = .psetext d a → (readQuad a s).inDomain) → exec i s = .next t → PointsInv t

/-! ## System commands (45_system.md) -/

/-- NOP, KSET and XGET (R310, R311, R313). -/
def Obligations.SystemResults : Prop :=
  ∀ s : State,
    exec .nop s = .next { s with LASTERR := 0 } ∧
    (∀ d b, exec (.kset d b) s = .next { s with K := s.K.set d b, LASTERR := 0 }) ∧
    (∀ d r c, s.P[r].tag = true → exec (.xget d (.ofP r c)) s = .next { s with
      F := s.F.set d ([s.P[r].val.X, s.P[r].val.Y, s.P[r].val.Z, s.P[r].val.T].getD c.val .zero), LASTERR := 0 }) ∧
    (∀ d r c, s.J[r].tag = true → exec (.xget d (.ofJ r c)) s = .next { s with
      F := s.F.set d ([s.J[r].val.X, s.J[r].val.Y, s.J[r].val.Z].getD c.val .zero), LASTERR := 0 }) ∧
    (∀ d r c, s.C[r].tag = true → exec (.xget d (.ofC r c)) s = .next { s with
      F := s.F.set d ([s.C[r].val.X, s.C[r].val.Y, s.C[r].val.Z, s.C[r].val.T].getD c.val .zero), LASTERR := 0 }) ∧
    (∀ d r c, s.Q[r].tag = true → exec (.xget d (.ofQ r c)) s = .next { s with
      F := s.F.set d ([s.Q[r].val.YpX, s.Q[r].val.YmX, s.Q[r].val.Z, s.Q[r].val.T2d].getD c.val .zero), LASTERR := 0 }) ∧
    (∀ d r c, s.A[r].tag = true → exec (.xget d (.ofA r c)) s = .next { s with
      F := s.F.set d ([s.A[r].val.YpX, s.A[r].val.YmX, s.A[r].val.T2d].getD c.val .zero), LASTERR := 0 })

/-! ## Field commands (40_field.md) -/

/-- R141 to R149: the word, the operation, and completion in every state with any registers coinciding. -/
def Obligations.FieldArithmetic : Prop :=
  ∀ (s : State) (d a b : Fin 32),
    (decode (packFields { opc := 0x11, ra := d, rb := a }) = .ok (.fmov d a) ∧
      exec (.fmov d a) s = .next { s with F := s.F.set d s.F[a], LASTERR := 0 }) ∧
    (decode (packFields { opc := 0x12, ra := d, rb := a, rc := b }) = .ok (.fadd d a b) ∧
      exec (.fadd d a b) s = .next { s with F := s.F.set d (feAdd s.F[a] s.F[b]), LASTERR := 0 }) ∧
    (decode (packFields { opc := 0x13, ra := d, rb := a, rc := b }) = .ok (.fsub d a b) ∧
      exec (.fsub d a b) s = .next { s with F := s.F.set d (feSub s.F[a] s.F[b]), LASTERR := 0 }) ∧
    (decode (packFields { opc := 0x14, ra := d, rb := a }) = .ok (.fneg d a) ∧
      exec (.fneg d a) s = .next { s with F := s.F.set d (feNeg s.F[a]), LASTERR := 0 }) ∧
    (decode (packFields { opc := 0x15, ra := d, rb := a, rc := b }) = .ok (.fmul d a b) ∧
      exec (.fmul d a b) s = .next { s with F := s.F.set d (feMul s.F[a] s.F[b]), LASTERR := 0 }) ∧
    (decode (packFields { opc := 0x16, ra := d, rb := a }) = .ok (.fsqr d a) ∧
      exec (.fsqr d a) s = .next { s with F := s.F.set d (feSqr s.F[a]), LASTERR := 0 }) ∧
    (decode (packFields { opc := 0x17, ra := d, rb := a }) = .ok (.fmul32 d a) ∧
      exec (.fmul32 d a) s = .next { s with F := s.F.set d (feMul32 s.F[a] s.ARG), LASTERR := 0 }) ∧
    (decode (packFields { opc := 0x18, ra := d, rb := a }) = .ok (.fcarry d a) ∧
      exec (.fcarry d a) s = .next { s with F := s.F.set d (feCarry s.F[a]), LASTERR := 0 }) ∧
    (decode (packFields { opc := 0x19, ra := d, rb := a }) = .ok (.freduce d a) ∧
      exec (.freduce d a) s = .next { s with F := s.F.set d (feReduce s.F[a]), LASTERR := 0 })

/-- FLDC with the five printed constants, FINV, FPOW, FSQRTR, FISNEG and FEQ (R140, R150 to R154). -/
def Obligations.FieldFunctions : Prop :=
  ∀ s : State,
    (∀ d, exec (.fldc d .zero) s = .next { s with F := s.F.set d ⟨0, 0, 0, 0, 0⟩, LASTERR := 0 } ∧
      exec (.fldc d .one) s = .next { s with F := s.F.set d ⟨1, 0, 0, 0, 0⟩, LASTERR := 0 } ∧
      exec (.fldc d .d) s = .next { s with
        F := s.F.set d ⟨929955233495203, 466365720129213, 1662059464998953, 2033849074728123, 1442794654840575⟩, LASTERR := 0 } ∧
      exec (.fldc d .d2) s = .next { s with
        F := s.F.set d ⟨1859910466990425, 932731440258426, 1072319116312658, 1815898335770999, 633789495995903⟩, LASTERR := 0 } ∧
      exec (.fldc d .sqrtm1) s = .next { s with
        F := s.F.set d ⟨1718705420411056, 234908883556509, 2233514472574048, 2117202627021982, 765476049583133⟩, LASTERR := 0 }) ∧
    (∀ d a, exec (.finv d a) s = .next { s with F := s.F.set d (feInv s.F[a]), LASTERR := 0 }) ∧
    (∀ d a, exec (.fpow d a) s = .next { s with F := s.F.set d (fePow22523 s.F[a]), LASTERR := 0 }) ∧
    (∀ d k u v, exec (.fsqrtr d k u v) s = .next { s with
      F := s.F.set d (feSqrtRatio s.F[u] s.F[v]).1, K := s.K.set k (feSqrtRatio s.F[u] s.F[v]).2, LASTERR := 0 }) ∧
    (∀ k a, exec (.fisneg k a) s = .next { s with K := s.K.set k (feIsNeg s.F[a]), LASTERR := 0 }) ∧
    (∀ k a b, exec (.feq k a b) s = .next { s with K := s.K.set k (feEq s.F[a] s.F[b]), LASTERR := 0 })

/-- FSEL, FSWAP and FCNEG by the value of the predicate (R130, R155 to R157): limbs are copied bit for bit, and FSWAP of a register with
itself leaves it as it was. -/
def Obligations.FieldConditional : Prop :=
  ∀ s : State,
    (∀ d a b c, exec (.fsel d a b c) s =
      .next { s with F := s.F.set d (if s.K[c] = true then s.F[a] else s.F[b]), LASTERR := 0 }) ∧
    (∀ a b c, exec (.fswap a b c) s = .next { s with
      F := if s.K[c] = true then (s.F.set a s.F[b]).set b s.F[a] else s.F, LASTERR := 0 }) ∧
    (∀ a c, exec (.fswap a a c) s = .next { s with LASTERR := 0 }) ∧
    (∀ d a c, exec (.fcneg d a c) s =
      .next { s with F := s.F.set d (if s.K[c] = true then feNeg s.F[a] else s.F[a]), LASTERR := 0 })

/-- FSETB and FLDL with the required length (R133, R158, R160): the five 51-bit pieces of the low 255 bits, unreduced; and the five raw
limbs. -/
def Obligations.FieldDecoders : Prop :=
  ∀ (s : State) (n : Fin 4),
    (s.IOLEN[n] = 32 → ∀ d, ∃ l, exec (.fsetb d n) s = .next { s with F := s.F.set d l, LASTERR := 0 } ∧
      l.le (2 ^ 51 - 1) (2 ^ 51 - 1) ∧ val l = leNat (ioBytes n 32 s) % 2 ^ 255) ∧
    (s.IOLEN[n] = 40 → ∀ d, ∃ l, exec (.fldl d n) s = .next { s with F := s.F.set d l, LASTERR := 0 } ∧
      l.l0.toNat + 2 ^ 64 * l.l1.toNat + 2 ^ 128 * l.l2.toNat + 2 ^ 192 * l.l3.toNat + 2 ^ 256 * l.l4.toNat =
        leNat (ioBytes n 40 s))

/-- The register-to-buffer commands (R67, R159, R161, R188, R264, R265, R312): the bytes from byte 0, zeros up to byte 63, and the
length. -/
def Obligations.BufferEncoders : Prop :=
  ∀ (s : State) (n : Fin 4),
    (∀ a, ∃ t, exec (.fgetb n a) s = .next t ∧ t.LASTERR = 0 ∧ bufferHolds t n (bytesLE (val (feReduce s.F[a])) 32)) ∧
    (∀ a, ∃ t, exec (.fstl n a) s = .next t ∧ t.LASTERR = 0 ∧ bufferHolds t n (bytesLE (s.F[a].l0.toNat +
      2 ^ 64 * s.F[a].l1.toNat + 2 ^ 128 * s.F[a].l2.toNat + 2 ^ 192 * s.F[a].l3.toNat + 2 ^ 256 * s.F[a].l4.toNat) 40)) ∧
    (∀ a, ∃ t, exec (.sgetb n a) s = .next t ∧ t.LASTERR = 0 ∧ bufferHolds t n (bytesLE s.S[a].toNat 32)) ∧
    (∀ a, s.P[a].tag = true → ∃ t, exec (.pgetb n a) s = .next t ∧ t.LASTERR = 0 ∧ bufferHolds t n (ptBytes s.P[a].val)) ∧
    (∀ a, s.P[a].tag = true → ∃ t, exec (.pgetm n a) s = .next t ∧ t.LASTERR = 0 ∧ bufferHolds t n (ptMontgomery s.P[a].val)) ∧
    (∀ (g : Fin 8) (blk : Fin 4), ∃ t, exec (.dgst n g blk) s = .next t ∧ t.LASTERR = 0 ∧ t.IOLEN[n] = 64 ∧
      ∀ (k : Fin 256), k.val / 64 = blk.val → t.IO.read (ioOffset n (k.val % 64)) = s.DG[g][k])

/-- The carry pass keeps the field element and gives a tight vector, on the domain R121 states. -/
def Obligations.CarryExact : Prop :=
  ∀ l, carryok l → toField (feCarry l) = toField l ∧ tight (feCarry l)

/-- Addition, subtraction and negation are exact mod p and give tight vectors, on the domains R121 states. -/
def Obligations.AddSubExact : Prop :=
  (∀ a b, loose a → loose b → toField (feAdd a b) = toField a + toField b ∧ tight (feAdd a b)) ∧
  (∀ a b, loose a → subok b → toField (feSub a b) = toField a - toField b ∧ tight (feSub a b)) ∧
  (∀ a, subok a → toField (feNeg a) = -toField a ∧ tight (feNeg a))

/-- Multiplication and squaring are exact mod p and give tight vectors, on the domain R121 states. -/
def Obligations.MulExact : Prop :=
  (∀ a b, loose a → loose b → toField (feMul a b) = toField a * toField b ∧ tight (feMul a b)) ∧
  (∀ a, loose a → toField (feSqr a) = toField a ^ 2 ∧ tight (feSqr a))

/-- Limb for limb on every input, wrapped or not: `fe_mul` is symmetric (R127), and `fe_sqr(a) = fe_mul(a, a)` (R128). -/
def Obligations.SquareIsProduct : Prop :=
  (∀ a b, feMul a b = feMul b a) ∧ (∀ a, feSqr a = feMul a a)

/-- Multiplication by ARG is exact mod p and almost in bounds, on the domain R121 states. -/
def Obligations.Mul32Exact : Prop :=
  ∀ (a : Limbs) (y : Word32), loose a → toField (feMul32 a y) = toField a * (y.toNat : ZMod fieldP) ∧
    (feMul32 a y).l0.toNat < 2 ^ 51 + 19 * 2 ^ 33 ∧ (feMul32 a y).l1.toNat < 2 ^ 51 + 2 ^ 33 ∧
    (feMul32 a y).l2.toNat < 2 ^ 51 + 2 ^ 33 ∧ (feMul32 a y).l3.toNat < 2 ^ 51 + 2 ^ 33 ∧ (feMul32 a y).l4.toNat < 2 ^ 51 + 2 ^ 33

/-- The final reduction gives the canonical vector of `val mod p`, and is the identity on canonical vectors (R121, R131). -/
def Obligations.ReduceCanonical : Prop :=
  (∀ l, carryok l → canonical (feReduce l) ∧ val (feReduce l) = val l % fieldP) ∧ (∀ l, canonical l → feReduce l = l)

/-- Bytes and limbs (R132, R133, R162): decoding an encoding gives the canonical vector; encoding a decoded string gives the canonical
form of its low 255 bits, and the string itself if it was canonical. -/
def Obligations.FieldBytes : Prop :=
  (∀ l, carryok l → (feBytes l).length = 32 ∧ feSetBytes (feBytes l) = feReduce l) ∧
  (∀ b, b.length = 32 → leNat (feBytes (feSetBytes b)) = leNat b % 2 ^ 255 % fieldP) ∧
  (∀ b, b.length = 32 → leNat b < fieldP → feBytes (feSetBytes b) = b)

/-- Equality and sign are of field elements, not of limbs (R134, R135). -/
def Obligations.FieldCompare : Prop :=
  (∀ a b, carryok a → carryok b → (feEq a b = true ↔ toField a = toField b)) ∧
  (∀ a, carryok a → (feIsNeg a = true ↔ val a % fieldP % 2 = 1))

/-- The two exponentiation chains (R137, R138): `z^(p−2)` and `x^(2^252−3)`, tight. -/
def Obligations.ExponentChains : Prop :=
  (∀ z, loose z → toField (feInv z) = toField z ^ (fieldP - 2) ∧ tight (feInv z)) ∧
  (∀ x, loose x → toField (fePow22523 x) = toField x ^ (2 ^ 252 - 3) ∧ tight (fePow22523 x))

/-- The square root of a ratio (R139, R162), on the domain: the root is tight with its low bit clear. For `v ≠ 0`, `wasSquare` is 1
exactly if `u/v` is a square; then the root is one of `u/v`, and otherwise one of `√−1·u/v`. For `v = 0` the root is 0 and
`wasSquare` says whether `u = 0`. -/
def Obligations.SqrtRatioSound : Prop :=
  ∀ u v, loose u → subok u → loose v →
    tight (feSqrtRatio u v).1 ∧ feIsNeg (feSqrtRatio u v).1 = false ∧
    ((feSqrtRatio u v).2 = true → toField (feSqrtRatio u v).1 ^ 2 * toField v = toField u) ∧
    (toField v ≠ 0 → ((feSqrtRatio u v).2 = true ↔ ∃ x : ZMod fieldP, x ^ 2 * toField v = toField u) ∧
      ((feSqrtRatio u v).2 = false → toField (feSqrtRatio u v).1 ^ 2 * toField v = toField feSqrtM1 * toField u)) ∧
    (toField v = 0 → toField (feSqrtRatio u v).1 = 0 ∧ ((feSqrtRatio u v).2 = true ↔ toField u = 0))

/-! ## Scalar commands (41_scalar.md) -/

/-- R178, R179, R180, R181, R182 and R184, each whole: the word, the value mod ℓ, and completion in every state with any registers
coinciding. -/
def Obligations.ScalarArithmetic : Prop :=
  ∀ (s : State) (d a b : Fin 8),
    (decode (packFields { opc := 0x30, ra := d, rb := a }) = .ok (.smov d a) ∧
      exec (.smov d a) s = .next { s with S := s.S.set d s.S[a], LASTERR := 0 }) ∧
    (decode (packFields { opc := 0x31, ra := d, rb := a, rc := b }) = .ok (.sadd d a b) ∧
      exec (.sadd d a b) s = .next { s with
        S := s.S.set d (BitVec.ofNat 256 ((s.S[a].toNat + s.S[b].toNat) % ell)), LASTERR := 0 }) ∧
    (decode (packFields { opc := 0x32, ra := d, rb := a, rc := b }) = .ok (.ssub d a b) ∧
      exec (.ssub d a b) s = .next { s with
        S := s.S.set d (BitVec.ofInt 256 (((s.S[a].toNat : Int) - s.S[b].toNat) % ell)), LASTERR := 0 }) ∧
    (decode (packFields { opc := 0x33, ra := d, rb := a }) = .ok (.sneg d a) ∧
      exec (.sneg d a) s = .next { s with S := s.S.set d (BitVec.ofInt 256 (-(s.S[a].toNat : Int) % ell)), LASTERR := 0 }) ∧
    (decode (packFields { opc := 0x34, ra := d, rb := a, rc := b }) = .ok (.smul d a b) ∧
      exec (.smul d a b) s = .next { s with
        S := s.S.set d (BitVec.ofNat 256 (s.S[a].toNat * s.S[b].toNat % ell)), LASTERR := 0 }) ∧
    (decode (packFields { opc := 0x36, ra := d, rb := a, rc := b }) = .ok (.seq d a b) ∧
      exec (.seq d a b) s = .next { s with K := s.K.set d (decide (s.S[a] = s.S[b])), LASTERR := 0 })

/-- SINV (R173, R183): `s^(ℓ−2) mod ℓ`, and no error for 0. -/
def Obligations.ScalarInverse : Prop :=
  ∀ (s : State) (d a : Fin 8),
    exec (.sinv d a) s = .next { s with S := s.S.set d (BitVec.ofNat 256 (s.S[a].toNat ^ (ell - 2) % ell)), LASTERR := 0 }

/-- The three scalar decoders with the required length (R174, R185 to R187); the clamped integer is `2^254` plus eight times bits 253 to
3. -/
def Obligations.ScalarDecoders : Prop :=
  ∀ (s : State) (n : Fin 4) (d : Fin 8),
    (s.IOLEN[n] = 32 → leNat (ioBytes n 32 s) < ell → exec (.ssetc d n) s =
      .next { s with S := s.S.set d (BitVec.ofNat 256 (leNat (ioBytes n 32 s))), LASTERR := 0 }) ∧
    (s.IOLEN[n] = 64 → exec (.ssetu d n) s =
      .next { s with S := s.S.set d (BitVec.ofNat 256 (leNat (ioBytes n 64 s) % ell)), LASTERR := 0 }) ∧
    (s.IOLEN[n] = 32 → exec (.ssetcl d n) s = .next { s with
      S := s.S.set d (BitVec.ofNat 256 ((2 ^ 254 + 8 * (leNat (ioBytes n 32 s) % 2 ^ 254 / 8)) % ell)), LASTERR := 0 })

/-- SRDX16 (R175, R189): the 64 digits reconstruct the scalar, lie in -8..7 but for the last, which is 0 or 1, and the rest of the
register is 0. The choice -8 for a nibble of 8 is the spec's own (R175). -/
def Obligations.Radix16Recoding : Prop :=
  ∀ (s : State) (g a : Fin 8), s.S[a].toNat < ell →
    ∃ t, exec (.srdx16 g a) s = .next t ∧ t.LASTERR = 0 ∧ digitSum 16 (digits t g) = s.S[a].toNat ∧
      digits t g = scRadix16 s.S[a].toNat ++ List.replicate 192 0 ∧
      (∀ i < 63, -8 ≤ (digits t g).getD i 0 ∧ (digits t g).getD i 0 ≤ 7) ∧
      (0 ≤ (digits t g).getD 63 0 ∧ (digits t g).getD 63 0 ≤ 1) ∧ (∀ i, 64 ≤ i → (digits t g).getD i 0 = 0)

/-- SNAF (R176, R190): the digits reconstruct the scalar; each is 0 or odd below `2^(w−1)`; at least `w−1` zeros follow a non-zero
one. -/
def Obligations.NafRecoding : Prop :=
  ∀ (s : State) (g a : Fin 8) (w : Nat), w = 5 ∨ w = 8 → s.S[a].toNat < ell →
    ∃ t, exec (.snaf g a w) s = .next t ∧ t.LASTERR = 0 ∧ digitSum 2 (digits t g) = s.S[a].toNat ∧
      digits t g = scNaf s.S[a].toNat w ∧
      (∀ i, (digits t g).getD i 0 = 0 ∨ ((digits t g).getD i 0 % 2 = 1 ∧ ((digits t g).getD i 0).natAbs < 2 ^ (w - 1))) ∧
      (∀ i j, i < j → j < i + w → (digits t g).getD i 0 ≠ 0 → (digits t g).getD j 0 = 0)

/-! ## Coordinates (42_coords.md) -/

/-- The ten coordinate commands on initialised sources (R215 to R224): the destination gets the converted value and its tag. -/
def Obligations.CoordinateResults : Prop :=
  ∀ s : State,
    (∀ d a, s.P[a].tag = true → exec (.jfromp d a) s =
      .next { s with J := s.J.set d ⟨true, s.P[a].val.X, s.P[a].val.Y, s.P[a].val.Z⟩, LASTERR := 0 }) ∧
    (∀ d a, s.C[a].tag = true → exec (.jfromc d a) s = .next { s with
        J := s.J.set d ⟨true, feMul s.C[a].val.X s.C[a].val.T,
      feMul s.C[a].val.Y s.C[a].val.Z, feMul s.C[a].val.Z s.C[a].val.T⟩, LASTERR := 0 }) ∧
    (∀ d a, s.C[a].tag = true → exec (.pfromc d a) s = .next { s with
        P := s.P.set d ⟨true, feMul s.C[a].val.X s.C[a].val.T,
      feMul s.C[a].val.Y s.C[a].val.Z, feMul s.C[a].val.Z s.C[a].val.T, feMul s.C[a].val.X s.C[a].val.Y⟩, LASTERR := 0 }) ∧
    (∀ d a, s.P[a].tag = true → exec (.qfromp d a) s = .next { s with
        Q := s.Q.set d ⟨true, feAdd s.P[a].val.Y s.P[a].val.X,
      feSub s.P[a].val.Y s.P[a].val.X, s.P[a].val.Z, feMul s.P[a].val.T feD2⟩, LASTERR := 0 }) ∧
    (∀ d a, s.P[a].tag = true → exec (.afromp d a) s = .next { s with
        A := s.A.set d ⟨true,
      feMul (feAdd s.P[a].val.Y s.P[a].val.X) (feInv s.P[a].val.Z), feMul (feSub s.P[a].val.Y s.P[a].val.X) (feInv s.P[a].val.Z),
      feMul (feMul s.P[a].val.T feD2) (feInv s.P[a].val.Z)⟩, LASTERR := 0 }) ∧
    (∀ d a b, s.P[a].tag = true → s.Q[b].tag = true →
      exec (.cadd d a b) s = .next { s with C := s.C.set d ⟨true, ptCadd s.P[a].val s.Q[b].val⟩, LASTERR := 0 } ∧
      exec (.csub d a b) s = .next { s with C := s.C.set d ⟨true, ptCsub s.P[a].val s.Q[b].val⟩, LASTERR := 0 }) ∧
    (∀ d a b, s.P[a].tag = true → s.A[b].tag = true →
      exec (.cadda d a b) s = .next { s with C := s.C.set d ⟨true, ptCadda s.P[a].val s.A[b].val⟩, LASTERR := 0 } ∧
      exec (.csuba d a b) s = .next { s with C := s.C.set d ⟨true, ptCsuba s.P[a].val s.A[b].val⟩, LASTERR := 0 }) ∧
    (∀ d a, s.J[a].tag = true → exec (.cdbl d a) s =
      .next { s with C := s.C.set d ⟨true, ptCdbl s.J[a].val⟩, LASTERR := 0 })

/-- The mixed adder's and the doubler's terms as field elements, and their bounds, on the domain (R207 to R211, R213). -/
def Obligations.AdderDoublerTerms : Prop :=
  (∀ (u : P3) (q : ProjCached), u.inDomain → q.inDomain →
    let x := toField u.X; let y := toField u.Y; let z := toField u.Z; let t := toField u.T
    let a := toField q.YpX; let b := toField q.YmX; let c := toField q.Z; let e := toField q.T2d
    (toField (ptCadd u q).X = (y + x) * a - (y - x) * b ∧ toField (ptCadd u q).Y = (y + x) * a + (y - x) * b ∧
      toField (ptCadd u q).Z = 2 * z * c + t * e ∧ toField (ptCadd u q).T = 2 * z * c - t * e ∧ (ptCadd u q).inDomain) ∧
    (toField (ptCsub u q).X = (y + x) * b - (y - x) * a ∧ toField (ptCsub u q).Y = (y + x) * b + (y - x) * a ∧
      toField (ptCsub u q).Z = 2 * z * c - t * e ∧ toField (ptCsub u q).T = 2 * z * c + t * e ∧ (ptCsub u q).inDomain)) ∧
  (∀ (u : P3) (q : AffineCached), u.inDomain → q.inDomain →
    let x := toField u.X; let y := toField u.Y; let z := toField u.Z; let t := toField u.T
    let a := toField q.YpX; let b := toField q.YmX; let e := toField q.T2d
    (toField (ptCadda u q).X = (y + x) * a - (y - x) * b ∧ toField (ptCadda u q).Y = (y + x) * a + (y - x) * b ∧
      toField (ptCadda u q).Z = 2 * z + t * e ∧ toField (ptCadda u q).T = 2 * z - t * e ∧ (ptCadda u q).inDomain) ∧
    (toField (ptCsuba u q).X = (y + x) * b - (y - x) * a ∧ toField (ptCsuba u q).Y = (y + x) * b + (y - x) * a ∧
      toField (ptCsuba u q).Z = 2 * z - t * e ∧ toField (ptCsuba u q).T = 2 * z + t * e ∧ (ptCsuba u q).inDomain)) ∧
  (∀ j : P2, j.inDomain →
    let x := toField j.X; let y := toField j.Y; let z := toField j.Z
    toField (ptCdbl j).X = 2 * x * y ∧ toField (ptCdbl j).Y = y ^ 2 + x ^ 2 ∧ toField (ptCdbl j).Z = y ^ 2 - x ^ 2 ∧
      toField (ptCdbl j).T = 2 * z ^ 2 - (y ^ 2 - x ^ 2) ∧ (ptCdbl j).inDomain)

/-! ## Tables (43_tables.md) -/

/-- The three builds on an initialised point (R231 to R233, R240, R243, R248): the first entry, each entry from the one before it, the
tag, and nothing else. -/
def Obligations.TableBuilds : Prop :=
  ∀ (s : State) (a : Fin 16), s.P[a].tag = true →
    (∀ d, ∃ e : ProjTable, exec (.ltbuild d a) s = .next { s with LT := s.LT.set d ⟨true, e⟩, LASTERR := 0 } ∧
      e = ltBuild s.P[a].val ∧ e[0] = qFromP3 s.P[a].val ∧
      ∀ i : Fin 7, e[i.succ] = qFromP3 (p3FromC (ptCadd s.P[a].val e[i.castSucc]))) ∧
    (∀ d, ∃ e : AffineTable, exec (.atbuild d a) s = .next { s with AT := s.AT.set d ⟨true, e⟩, LASTERR := 0 } ∧
      e = atBuild s.P[a].val ∧ e[0] = aFromP3 s.P[a].val ∧
      ∀ i : Fin 7, e[i.succ] = aFromP3 (p3FromC (ptCadda s.P[a].val e[i.castSucc]))) ∧
    (∀ d, ∃ e : ProjTable, exec (.ntbuild d a) s = .next { s with NT := s.NT.set d ⟨true, e⟩, LASTERR := 0 } ∧
      e = ntBuild s.P[a].val ∧ e[0] = qFromP3 s.P[a].val ∧
      ∀ i : Fin 7, e[i.succ] = qFromP3 (p3FromC (ptCadd (p3FromC (ptCadd s.P[a].val e[0])) e[i.castSucc])))

/-- The selections case by case. Constant time (R234 to R236): digit 0 gives exactly the identity constant, `j` entry `j−1`, and `−j`
that entry negated. Variable time (R237): the odd multiple `2k+1` gives entry `k`, of a table and of the ROM. -/
def Obligations.SelectionCases : Prop :=
  (∀ t : ProjTable, ltSel t 0 = qIdent ∧
    ∀ j : Fin 8, ltSel t (BitVec.ofNat 8 (j.val + 1)) = t[j] ∧ ltSel t (-BitVec.ofNat 8 (j.val + 1)) = negCached t[j]) ∧
  (∀ t : AffineTable, atSel t 0 = aIdent ∧
    ∀ j : Fin 8, atSel t (BitVec.ofNat 8 (j.val + 1)) = t[j] ∧ atSel t (-BitVec.ofNat 8 (j.val + 1)) = negAffine t[j]) ∧
  (∀ (t : ProjTable) (k : Fin 8), ntSel t (2 * k.val + 1) = t[k]) ∧ (∀ i j : Fin 8, bntSel (2 * (8 * i.val + j.val) + 1) = BNT[i][j])

/-- The eight selecting commands on a built table and a legal digit or multiple (R241, R242, R244 to R247, R249, R250). -/
def Obligations.TableSelects : Prop :=
  ∀ s : State,
    (∀ d a b i, s.LT[a].tag = true → -8 ≤ s.DG[b][i].toInt → s.DG[b][i].toInt ≤ 8 → exec (.ltsel d a b i) s =
      .next { s with Q := s.Q.set d ⟨true, ltSel s.LT[a].val s.DG[b][i]⟩, LASTERR := 0 }) ∧
    (∀ d a x, s.LT[a].tag = true → -8 ≤ x → x ≤ 8 → exec (.ltseli d a x) s =
      .next { s with Q := s.Q.set d ⟨true, ltSel s.LT[a].val (BitVec.ofInt 8 x)⟩, LASTERR := 0 }) ∧
    (∀ d a b i, s.AT[a].tag = true → -8 ≤ s.DG[b][i].toInt → s.DG[b][i].toInt ≤ 8 → exec (.atsel d a b i) s =
      .next { s with A := s.A.set d ⟨true, atSel s.AT[a].val s.DG[b][i]⟩, LASTERR := 0 }) ∧
    (∀ d a x, s.AT[a].tag = true → -8 ≤ x → x ≤ 8 → exec (.atseli d a x) s =
      .next { s with A := s.A.set d ⟨true, atSel s.AT[a].val (BitVec.ofInt 8 x)⟩, LASTERR := 0 }) ∧
    (∀ d r b i, -8 ≤ s.DG[b][i].toInt → s.DG[b][i].toInt ≤ 8 → exec (.btsel d r b i) s =
      .next { s with A := s.A.set d ⟨true, atSel BPT[r] s.DG[b][i]⟩, LASTERR := 0 }) ∧
    (∀ d (r : Fin 32) x, -8 ≤ x → x ≤ 8 → exec (.btseli d r x) s =
      .next { s with A := s.A.set d ⟨true, atSel BPT[r] (BitVec.ofInt 8 x)⟩, LASTERR := 0 }) ∧
    (∀ d a (k : Fin 8), s.NT[a].tag = true → exec (.ntsel d a (2 * k.val + 1)) s =
      .next { s with Q := s.Q.set d ⟨true, s.NT[a].val[k]⟩, LASTERR := 0 }) ∧
    (∀ d (i j : Fin 8), exec (.bnsel d (2 * (8 * i.val + j.val) + 1)) s =
      .next { s with A := s.A.set d ⟨true, BNT[i][j]⟩, LASTERR := 0 })

/-! ## Points (44_point.md) -/

/-- R260, R261 and R262, each whole: the word, the identity, the generator's printed limbs, the copy, and PMOV's error. -/
def Obligations.PointConstants : Prop :=
  ∀ (s : State) (d a : Fin 16),
    (decode (packFields { opc := 0x60, ra := d }) = .ok (.pident d) ∧
      exec (.pident d) s = .next { s with
        P := s.P.set d ⟨true, ⟨0, 0, 0, 0, 0⟩, ⟨1, 0, 0, 0, 0⟩, ⟨1, 0, 0, 0, 0⟩, ⟨0, 0, 0, 0, 0⟩⟩, LASTERR := 0 }) ∧
    (decode (packFields { opc := 0x61, ra := d }) = .ok (.pgen d) ∧
      exec (.pgen d) s = .next { s with
        P := s.P.set d ⟨true, ⟨0x62d608f25d51a, 0x412a4b4f6592a, 0x75b7171a4b31d, 0x1ff60527118fe, 0x216936d3cd6e5⟩,
          ⟨0x6666666666658, 0x4cccccccccccc, 0x1999999999999, 0x3333333333333, 0x6666666666666⟩, ⟨1, 0, 0, 0, 0⟩,
          ⟨0x68ab3a5b7dda3, 0x00eea2a5eadbb, 0x2af8df483c27e, 0x332b375274732, 0x67875f0fd78b7⟩⟩, LASTERR := 0 }) ∧
    (decode (packFields { opc := 0x62, ra := d, rb := a }) = .ok (.pmov d a) ∧
      (s.P[a].tag = true → exec (.pmov d a) s = .next { s with P := s.P.set d ⟨true, s.P[a].val⟩, LASTERR := 0 }) ∧
      (s.P[a].tag = false → exec (.pmov d a) s = .next { s with LASTERR := 5, ERRSTICKY := s.ERRSTICKY ||| 0x20 }))

/-- PSETB on an accepted string, PEXT, and PSETEXT on coordinates that pass its check (R263, R272, R273): PEXT writes four consecutive
registers and PSETEXT stores the four vectors unchanged. -/
def Obligations.PointTransfers : Prop :=
  ∀ s : State,
    (∀ d n q, s.IOLEN[n] = 32 → ptSetBytes (ioBytes n 32 s) = some q →
      exec (.psetb d n) s = .next { s with P := s.P.set d ⟨true, q⟩, LASTERR := 0 }) ∧
    (∀ d a, s.P[a].tag = true → exec (.pext d a) s = .next { s with
      F := (((s.F.set (quadReg d 0) s.P[a].val.X).set (quadReg d 1) s.P[a].val.Y).set (quadReg d 2) s.P[a].val.Z).set
        (quadReg d 3) s.P[a].val.T, LASTERR := 0 }) ∧
    (∀ d a, (readQuad a s).inDomain → (readQuad a s).onCurve → exec (.psetext d a) s = .next { s with
      P := s.P.set d ⟨true, s.F[quadReg a 0], s.F[quadReg a 1], s.F[quadReg a 2], s.F[quadReg a 3]⟩, LASTERR := 0 })

/-- The group commands on initialised points (R266 to R271), PMULL by the chain R271 fixes. -/
def Obligations.PointGroup : Prop :=
  ∀ (s : State) (a b : Fin 16), s.P[a].tag = true → s.P[b].tag = true →
    (∀ d, exec (.padd d a b) s = .next { s with
      P := s.P.set d ⟨true, p3FromC (ptCadd s.P[a].val (qFromP3 s.P[b].val))⟩, LASTERR := 0 }) ∧
    (∀ d, exec (.psub d a b) s = .next { s with
      P := s.P.set d ⟨true, p3FromC (ptCsub s.P[a].val (qFromP3 s.P[b].val))⟩, LASTERR := 0 }) ∧
    (∀ d, exec (.pneg d a) s = .next { s with
      P := s.P.set d ⟨true, feNeg s.P[a].val.X, s.P[a].val.Y, s.P[a].val.Z, feNeg s.P[a].val.T⟩, LASTERR := 0 }) ∧
    (∀ k, exec (.peq k a b) s = .next { s with K := s.K.set k (ptEq s.P[a].val s.P[b].val), LASTERR := 0 }) ∧
    (∀ d, exec (.pmul8 d a) s = .next { s with
        P := s.P.set d ⟨true,
      p3FromC (ptCdbl (p2FromC (ptCdbl (p2FromC (ptCdbl (p2FromP3 s.P[a].val))))))⟩, LASTERR := 0 }) ∧
    (∀ d, exec (.pmull d a) s = .next { s with P := s.P.set d ⟨true, ptMulL s.P[a].val⟩, LASTERR := 0 } ∧
      MullRun s.P[a].val (ptMulL s.P[a].val))

/-- The scalar multiplications (R275 to R280): PSMUL and PVDSBM on an initialised point, PBMUL in every state, and the multi-scalar
commands on `n` pairs whose points are initialised, `n = 0` among them. Only the destination changes, and its value is what the
rule's own loop leaves. -/
def Obligations.ScalarMultiplications : Prop :=
  ∀ s : State,
    (∀ d a b, s.P[b].tag = true →
      ∃ r, exec (.psmul d a b) s = .next { s with P := s.P.set d ⟨true, r⟩, LASTERR := 0 } ∧
        r = ptSmul s.S[a].toNat s.P[b].val ∧ SmulRun s.S[a].toNat s.P[b].val r) ∧
    (∀ d a, ∃ r, exec (.pbmul d a) s = .next { s with P := s.P.set d ⟨true, r⟩, LASTERR := 0 } ∧
      r = ptBmul s.S[a].toNat ∧ BmulRun s.S[a].toNat r) ∧
    (∀ d a b c, s.P[b].tag = true →
      ∃ r, exec (.pvdsbm d a b c) s = .next { s with P := s.P.set d ⟨true, r⟩, LASTERR := 0 } ∧
        r = ptVdsbm s.S[a].toNat s.P[b].val s.S[c].toNat ∧ VdsbmRun s.S[a].toNat s.P[b].val s.S[c].toNat r) ∧
    (∀ d (a : Fin 8) (b : Fin 16) n, ∀ ha : a.val + n ≤ 8, ∀ hb : b.val + n ≤ 16,
      (∀ k : Fin n, (s.P[b.val + k.val]'(by omega)).tag = true) →
      let sc := fun k : Fin n => (s.S[a.val + k.val]'(by omega)).toNat
      let pt := fun k : Fin n => (s.P[b.val + k.val]'(by omega)).val
      (∃ r, exec (.pmsm d a b n) s = .next { s with P := s.P.set d ⟨true, r⟩, LASTERR := 0 } ∧
        r = ptMsm ((List.finRange n).map fun k => (sc k, pt k)) ∧ MsmRun n sc pt r) ∧
      (∃ r, exec (.pvmsm d a b n) s = .next { s with P := s.P.set d ⟨true, r⟩, LASTERR := 0 } ∧
        r = ptVmsm ((List.finRange n).map fun k => (sc k, pt k)) ∧ VmsmRun n sc pt r))

/-- The two predicates on points, on the domain: PSETEXT's check is the two curve equations (R273), and PEQ compares by cross
multiplication (R269). -/
def Obligations.PointPredicates : Prop :=
  (∀ q : P3, q.inDomain → (ptOnCurve q = true ↔ q.onCurve)) ∧
  (∀ u v : P3, u.inDomain → v.inDomain →
    (ptEq u v = true ↔ toField v.X * toField u.Z = toField u.X * toField v.Z ∧
      toField v.Y * toField u.Z = toField u.Y * toField v.Z))

/-- PSETB's decoding (R263, R282). A string is accepted exactly if some x completes its y, the low 255 bits mod p, to a point of the
curve. An accepted one gives a point on the curve with `Z = 1`, y unreduced and the requested sign unless `x = 0`, and encodes back to
its canonical form. Every point on the curve in the domain encodes to a string that is accepted and gives the same point. -/
def Obligations.PointDecoding : Prop :=
  (∀ b : List Byte, b.length = 32 →
    let y : ZMod fieldP := ((leNat b % 2 ^ 255 : Nat) : ZMod fieldP)
    ((∃ q, ptSetBytes b = some q) ↔ ∃ x : ZMod fieldP, -x ^ 2 + y ^ 2 = 1 + dField * x ^ 2 * y ^ 2) ∧
    ∀ q, ptSetBytes b = some q →
      q.onCurve ∧ q.inDomain ∧ q.Z = ⟨1, 0, 0, 0, 0⟩ ∧ val q.Y = leNat b % 2 ^ 255 ∧
        (toField q.X ≠ 0 → feIsNeg q.X = (leNat b).testBit 255) ∧
        leNat (ptBytes q) % 2 ^ 255 = leNat b % 2 ^ 255 % fieldP ∧
        (leNat (ptBytes q)).testBit 255 = (decide (toField q.X ≠ 0) && (leNat b).testBit 255)) ∧
  (∀ u : P3, u.inDomain → u.onCurve →
    ∃ q, ptSetBytes (ptBytes u) = some q ∧ ptEq q u = true ∧ ptBytes q = ptBytes u)

/-- PGETB's and PGETM's bytes (R264, R265), on the domain: the canonical y with the low bit of x in bit 255, and the canonical u, each
with the inverse of 0 taken as 0. -/
def Obligations.PointEncoding : Prop :=
  ∀ q : P3, q.inDomain →
    (ptBytes q).length = 32 ∧ leNat (ptBytes q) % 2 ^ 255 < fieldP ∧
    ((leNat (ptBytes q) % 2 ^ 255 : Nat) : ZMod fieldP) = toField q.Y * toField q.Z ^ (fieldP - 2) ∧
    (leNat (ptBytes q)).testBit 255 = ((toField q.X * toField q.Z ^ (fieldP - 2)).val % 2 == 1) ∧
    (ptMontgomery q).length = 32 ∧ leNat (ptMontgomery q) < fieldP ∧
    ((leNat (ptMontgomery q) : Nat) : ZMod fieldP) =
      (toField q.Z + toField q.Y) * (toField q.Z - toField q.Y) ^ (fieldP - 2)

/-- The group laws of R282 as equalities of points (PEQ), for points on the curve in the domain: addition commutes, the identity is
neutral, a point less itself and a point plus its negative are the identity, doubling agrees with adding a point to itself, and PMUL8
with three such sums. For the generator B: `0·B` is the identity and `1·B` is B, by PSMUL and by PBMUL, and PMULL gives the identity. -/
def Obligations.GroupLaws : Prop :=
  (∀ u v : P3, u.inDomain → v.inDomain → u.onCurve → v.onCurve →
    ptEq (ptAdd u v) (ptAdd v u) = true ∧ ptEq (ptAdd u ptIdent) u = true ∧ ptEq (ptSub u u) ptIdent = true ∧
      ptEq (ptAdd u (ptNeg u)) ptIdent = true ∧ ptEq (p3FromC (ptCdbl (p2FromP3 u))) (ptAdd u u) = true ∧
      ptEq (ptMul8 u) (ptAdd (ptAdd (ptAdd u u) (ptAdd u u)) (ptAdd (ptAdd u u) (ptAdd u u))) = true) ∧
  ptEq (ptSmul 0 genPoint) ptIdent = true ∧ ptEq (ptSmul 1 genPoint) genPoint = true ∧ ptEq (ptBmul 0) ptIdent = true ∧
  ptEq (ptBmul 1) genPoint = true ∧ ptEq (ptMulL genPoint) ptIdent = true

/-- The degenerate point (R273, R368): PSETEXT accepts four zero vectors, as all F registers are after reset; it compares equal to every
point and its two encodings are 32 zero bytes. -/
def Obligations.DegeneratePoint : Prop :=
  (∀ (s : State) (d : Fin 16) (a : Fin 29), (∀ k : Fin 4, s.F[quadReg a k] = .zero) →
    exec (.psetext d a) s = .next { s with P := s.P.set d ⟨true, .zero, .zero, .zero, .zero⟩, LASTERR := 0 }) ∧
  (∀ u : P3, ptEq u ⟨.zero, .zero, .zero, .zero⟩ = true ∧ ptEq ⟨.zero, .zero, .zero, .zero⟩ u = true) ∧
  ptBytes ⟨.zero, .zero, .zero, .zero⟩ = List.replicate 32 0 ∧ ptMontgomery ⟨.zero, .zero, .zero, .zero⟩ = List.replicate 32 0
end

