-- ==== Sys2Proof/Laws/Errors.lean ====
section
/-! SUPPORT. One lemma per shared operation saying everything it can answer, so that no later proof unfolds it. -/

namespace Sys2Proof.Laws

open Sys2Proof.Machine

/-- Completing answers a next state in which only LASTERR differs (R322). -/
theorem complete_eq {s t : State} : complete s = .next t ↔ t = { s with LASTERR := 0 } := by
  simp only [complete, Host.Outcome.next.injEq, eq_comm]

/-- Raising answers a next state in which only LASTERR and ERRSTICKY differ (R322). -/
theorem raise_eq {e : CmdError} {s t : State} :
    raise e s = .next t ↔ t = { s with LASTERR := errorCode e, ERRSTICKY := s.ERRSTICKY ||| stickyBit (errorCode e) } := by
  simp only [raise, Host.Outcome.next.injEq, eq_comm]

/-- No error has code 0 (R321). -/
theorem errorCode_ne_zero (e : CmdError) : errorCode e ≠ 0 := by cases e <;> decide

theorem errorCode_injective : Function.Injective errorCode := by
  intro a b h; cases a <;> cases b <;> first | rfl | exact absurd h (by decide)

theorem withLegal_cases {ok : Bool} {s : State} {k o : Outcome} (h : withLegal ok s k = o) :
    (ok = true ∧ k = o) ∨ (ok = false ∧ raise .illegalCommand s = o) := by
  cases ok
  · exact .inr ⟨rfl, h⟩
  · exact .inl ⟨rfl, h⟩

theorem withTagged_cases {α : Type} {t : Tagged α} {e : CmdError} {s : State} {k : α → Outcome} {o : Outcome}
    (h : withTagged t e s k = o) : (t.tag = true ∧ k t.val = o) ∨ (t.tag = false ∧ raise e s = o) := by
  unfold withTagged at h
  split at h
  · exact .inl ⟨‹_›, h⟩
  · exact .inr ⟨by simpa using ‹¬ t.tag = true›, h⟩

theorem withBytes_cases {n : Fin 4} {len : Nat} {e : CmdError} {s : State} {k : List Byte → Outcome} {o : Outcome}
    (h : withBytes n len e s k = o) :
    (s.IOLEN[n].toNat = len ∧ k (ioBytes n len s) = o) ∨ (s.IOLEN[n].toNat ≠ len ∧ raise e s = o) := by
  unfold withBytes at h
  split at h
  · exact .inl ⟨‹_›, h⟩
  · exact .inr ⟨‹_›, h⟩

theorem withDigit_cases {b : Fin 8} {i : Fin 256} {s : State} {k : Byte → Outcome} {o : Outcome} (h : withDigit b i s k = o) :
    (digitLegal s.DG[b][i] = true ∧ k s.DG[b][i] = o) ∨ (digitLegal s.DG[b][i] = false ∧ raise .illegalDigit s = o) := by
  unfold withDigit at h
  split at h
  · exact .inl ⟨‹_›, h⟩
  · exact .inr ⟨by simpa using ‹¬ digitLegal _ = true›, h⟩

theorem withImmDigit_cases {x : Int} {s : State} {k : Byte → Outcome} {o : Outcome} (h : withImmDigit x s k = o) :
    (legalDigit x = true ∧ k (BitVec.ofInt 8 x) = o) ∨ (legalDigit x = false ∧ raise .illegalCommand s = o) :=
  withLegal_cases h

theorem withSome_cases {α : Type} {v : Option α} {e : CmdError} {s : State} {k : α → Outcome} {o : Outcome}
    (h : withSome v e s k = o) : (∃ x, v = some x ∧ k x = o) ∨ (v = none ∧ raise e s = o) := by
  cases v with
  | none => exact .inr ⟨rfl, h⟩
  | some x => exact .inl ⟨x, rfl, h⟩

theorem withPairs_cases {a : Fin 8} {b : Fin 16} {n : Nat} {s : State} {k : List (Nat × P3) → Outcome} {o : Outcome}
    (h : withPairs a b n s k = o) :
    (legalPairs a b n = true ∧ (∀ x ∈ pairSources a b n s, x.2.tag = true) ∧
        k ((pairSources a b n s).map fun x => (x.1.toNat, x.2.val)) = o) ∨
      (legalPairs a b n = true ∧ (∃ x ∈ pairSources a b n s, x.2.tag = false) ∧ raise .uninitializedPoint s = o) ∨
      (legalPairs a b n = false ∧ raise .illegalCommand s = o) := by
  rcases withLegal_cases h with ⟨hl, h⟩ | h
  · split at h
    · rename_i ht
      exact .inl ⟨hl, by simpa using ht, h⟩
    · rename_i ht
      exact .inr (.inl ⟨hl, by simpa using ht, h⟩)
  · exact .inr (.inr h)

end Sys2Proof.Laws
end

