-- ==== Sys2Proof/Laws/Memory.lean ====
section
/-! SUPPORT. Laws of the buffers' bytes: a read after a write, and that every memory operation keeps the canonical form. -/

namespace Sys2Proof.Laws

open Sys2Proof.Machine

@[simp] theorem read_nil (a : Nat) : Memory.read [] a = 0 := rfl

theorem read_cons (c : Host.Cell) (m : Memory) (a : Nat) :
    Memory.read (c :: m) a = if c.1 = a then c.2 else Memory.read m a := rfl

theorem read_erase (m : Memory) (a b : Nat) : (Memory.erase m a).read b = if b = a then 0 else m.read b := by
  induction m with
  | nil => simp [Memory.erase]
  | cons c m ih =>
    unfold Memory.erase at ih ⊢
    by_cases h : c.1 = a <;> simp only [List.filter_cons, h, bne_self_eq_false, Bool.false_eq_true, if_false, ih, read_cons,
      bne_iff_ne, ne_eq, not_false_eq_true, if_true]
    · grind
    · grind

theorem read_insert (m : Memory) (a : Nat) (v : Byte) (b : Nat) (h : m.read a = 0 ∧ ∀ c ∈ m, c.1 ≠ a) :
    (Memory.insert m a v).read b = if b = a then v else m.read b := by
  induction m with
  | nil => simp [Memory.insert, read_cons, eq_comm]
  | cons c m ih =>
    have hc : c.1 ≠ a := h.2 c (by simp)
    have ih := ih ⟨by have := h.1; rw [read_cons, if_neg hc] at this; exact this, fun d hd => h.2 d (by simp [hd])⟩
    unfold Memory.insert
    split
    · grind [read_cons]
    · rw [read_cons, ih, read_cons]; grind

theorem erase_absent (m : Memory) (a : Nat) : ∀ c ∈ Memory.erase m a, c.1 ≠ a := by
  intro c hc; simpa [Memory.erase] using (List.mem_filter.1 hc).2

/-- Reading a byte after one byte was written. -/
theorem read_write (m : Memory) (a : Nat) (v : Byte) (b : Nat) :
    (m.write a v).read b = if b = a then v else m.read b := by
  unfold Memory.write
  split
  · rw [read_erase]; grind
  · rw [read_insert _ _ _ _ ⟨by rw [read_erase]; simp, erase_absent m a⟩, read_erase]; grind

/-- Reading a byte after a byte string was written. -/
theorem read_writeBytes (bs : List Byte) (m : Memory) (a b : Nat) :
    (m.writeBytes a bs).read b = if a ≤ b ∧ b < a + bs.length then bs.getD (b - a) 0 else m.read b := by
  induction bs generalizing m a with
  | nil => simp [Memory.writeBytes]
  | cons x bs ih =>
    simp only [Memory.writeBytes, ih, read_write, List.length_cons]
    by_cases h : b = a
    · subst h; simp
    · by_cases h2 : a + 1 ≤ b
      · obtain ⟨k, rfl⟩ : ∃ k, b = a + 1 + k := ⟨b - (a + 1), by omega⟩
        simp [show a + 1 + k - a = k + 1 by omega, show a ≤ a + 1 + k by omega, h]
        grind
      · simp [h, show ¬ (a ≤ b) by omega, h2]

/-- The canonical form without the condition on which offsets hold data. -/
theorem pairwise_erase {m : Memory} (a : Nat) (h : m.Pairwise fun c c' => c.1 < c'.1) :
    (Memory.erase m a).Pairwise fun c c' => c.1 < c'.1 := h.filter _

theorem mem_insert {m : Memory} {a : Nat} {v : Byte} {c : Host.Cell} (h : c ∈ Memory.insert m a v) : c = (a, v) ∨ c ∈ m := by
  induction m with
  | nil => simpa [Memory.insert] using h
  | cons d m ih =>
    unfold Memory.insert at h
    split at h
    · simpa using h
    · rcases List.mem_cons.1 h with rfl | h
      · simp
      · rcases ih h with h | h <;> simp [h]

theorem pairwise_insert {m : Memory} {a : Nat} {v : Byte} (h : m.Pairwise fun c c' => c.1 < c'.1) (ha : ∀ c ∈ m, c.1 ≠ a) :
    (Memory.insert m a v).Pairwise fun c c' => c.1 < c'.1 := by
  induction m with
  | nil => simp [Memory.insert]
  | cons d m ih =>
    have hd := List.pairwise_cons.1 h
    unfold Memory.insert
    split
    · rename_i hlt
      refine List.pairwise_cons.2 ⟨?_, h⟩
      intro c hc
      rcases List.mem_cons.1 hc with rfl | hc
      · exact hlt
      · exact lt_trans hlt (hd.1 c hc)
    · refine List.pairwise_cons.2 ⟨?_, ih hd.2 fun c hc => ha c (by simp [hc])⟩
      intro c hc
      rcases mem_insert hc with rfl | hc
      · have := ha d (by simp); simp only; omega
      · exact hd.1 c hc

/-- A byte written at a data offset keeps the canonical form. -/
theorem wf_write {m : Memory} {a : Nat} (v : Byte) (ha : isIoData a = true) (h : m.wf) : (m.write a v).wf := by
  unfold Memory.write
  split
  · exact ⟨pairwise_erase a h.1, fun c hc => h.2 c (List.mem_filter.1 hc).1⟩
  · rename_i hv
    refine ⟨pairwise_insert (pairwise_erase a h.1) (erase_absent m a), fun c hc => ?_⟩
    rcases mem_insert hc with rfl | hc
    · exact ⟨hv, ha⟩
    · exact h.2 c (List.mem_filter.1 hc).1

/-- A byte string written over data offsets keeps the canonical form. -/
theorem wf_writeBytes {m : Memory} {a : Nat} (bs : List Byte) (ha : ∀ k < bs.length, isIoData (a + k) = true) (h : m.wf) :
    (m.writeBytes a bs).wf := by
  induction bs generalizing m a with
  | nil => exact h
  | cons x bs ih =>
    refine ih (fun k hk => ?_) (wf_write x (by simpa using ha 0 (by simp)) h)
    simpa [Nat.add_assoc, Nat.add_comm 1 k] using ha (k + 1) (by simpa using hk)

theorem length_padTo (n : Nat) (b : List Byte) : (padTo n b).length = n := by simp [padTo]

theorem isIoData_ioOffset (n : Fin 4) (k : Nat) (hk : k < 64) : isIoData (ioOffset n 0 + k) = true := by
  have := n.isLt
  unfold isIoData ioOffset
  rw [Bool.and_eq_true, Bool.and_eq_true, decide_eq_true_eq, decide_eq_true_eq, decide_eq_true_eq]
  omega

/-- `IOWrite` keeps the canonical form. -/
theorem wf_ioWrite {s : State} (n : Fin 4) (b : List Byte) (h : Memory.wf s.IO) : Memory.wf (ioWrite n b s).IO :=
  wf_writeBytes _ (fun k hk => isIoData_ioOffset n k (by simpa [length_padTo] using hk)) h

/-- A window word written to a buffer keeps the canonical form. -/
theorem wf_writeWord {m : Memory} {off : Nat} (v : Word32) (h4 : off % 4 = 0) (ha : isIoData off = true) (h : m.wf) :
    (m.writeBytes off (wordBytes v)).wf := by
  refine wf_writeBytes _ (fun k hk => ?_) h
  simp only [wordBytes, List.length_cons, List.length_nil] at hk
  simp only [isIoData, Bool.and_eq_true, decide_eq_true_eq] at ha ⊢
  omega

/-- The reset memory has the canonical form. -/
theorem wf_reset : Memory.wf State.reset.IO := by decide

/-- What `IOWrite` leaves at every offset: the bytes, then zeros up to byte 63, and every other byte as it was (R14, R67). -/
theorem read_ioWrite (n : Fin 4) (b : List Byte) (s : State) (a : Nat) :
    (ioWrite n b s).IO.read a =
      if ioOffset n 0 ≤ a ∧ a < ioOffset n 0 + 64 then (padTo 64 b).getD (a - ioOffset n 0) 0 else s.IO.read a := by
  simp only [ioWrite, read_writeBytes, length_padTo]

end Sys2Proof.Laws
end

