-- ==== Sys2Proof/Laws/PerInstr.lean ====
section
/-! SUPPORT. A family of statements made per command: the five fields of a well-formed command fit the widths of format W (R91), so that
packing them drops no bit. -/

namespace Sys2Proof.Laws.FieldsFit

set_option Elab.async false

/-- Every field of a well-formed command is below `2^width` (R91). -/
def Statement (i : Instr) : Prop :=
  i.wellFormed = true → (encodeFields i).opc < 2 ^ 8 ∧ (encodeFields i).ra < 2 ^ 5 ∧ (encodeFields i).rb < 2 ^ 5 ∧
    (encodeFields i).rc < 2 ^ 5 ∧ (encodeFields i).imm < 2 ^ 9

theorem nop : Statement (.nop) := by
  intro _
  simp only [encodeFields]
  omega

theorem kset (d : Fin 8) (bit : Bool) : Statement (.kset d bit) := by
  intro _
  cases bit <;> simp only [encodeFields, Bool.toNat_true, Bool.toNat_false] <;> omega

theorem dgst (n : Fin 4) (a : Fin 8) (blk : Fin 4) : Statement (.dgst n a blk) := by
  intro _
  simp only [encodeFields]
  omega

theorem xget (d : Fin 32) (src : Component) : Statement (.xget d src) := by
  intro _
  cases src <;> simp only [encodeFields] <;> omega

theorem fldc (d : Fin 32) (const : FieldConst) : Statement (.fldc d const) := by
  intro _
  cases const <;> simp only [encodeFields, constImm] <;> omega

theorem fmov (d a : Fin 32) : Statement (.fmov d a) := by
  intro _
  simp only [encodeFields]
  omega

theorem fadd (d a b : Fin 32) : Statement (.fadd d a b) := by
  intro _
  simp only [encodeFields]
  omega

theorem fsub (d a b : Fin 32) : Statement (.fsub d a b) := by
  intro _
  simp only [encodeFields]
  omega

theorem fneg (d a : Fin 32) : Statement (.fneg d a) := by
  intro _
  simp only [encodeFields]
  omega

theorem fmul (d a b : Fin 32) : Statement (.fmul d a b) := by
  intro _
  simp only [encodeFields]
  omega

theorem fsqr (d a : Fin 32) : Statement (.fsqr d a) := by
  intro _
  simp only [encodeFields]
  omega

theorem fmul32 (d a : Fin 32) : Statement (.fmul32 d a) := by
  intro _
  simp only [encodeFields]
  omega

theorem fcarry (d a : Fin 32) : Statement (.fcarry d a) := by
  intro _
  simp only [encodeFields]
  omega

theorem freduce (d a : Fin 32) : Statement (.freduce d a) := by
  intro _
  simp only [encodeFields]
  omega

theorem finv (d a : Fin 32) : Statement (.finv d a) := by
  intro _
  simp only [encodeFields]
  omega

theorem fpow (d a : Fin 32) : Statement (.fpow d a) := by
  intro _
  simp only [encodeFields]
  omega

theorem fsqrtr (d : Fin 32) (k : Fin 8) (u v : Fin 32) : Statement (.fsqrtr d k u v) := by
  intro _
  simp only [encodeFields]
  omega

theorem fisneg (k : Fin 8) (a : Fin 32) : Statement (.fisneg k a) := by
  intro _
  simp only [encodeFields]
  omega

theorem feq (k : Fin 8) (a b : Fin 32) : Statement (.feq k a b) := by
  intro _
  simp only [encodeFields]
  omega

theorem fsel (d a b : Fin 32) (c : Fin 8) : Statement (.fsel d a b c) := by
  intro _
  simp only [encodeFields]
  omega

theorem fswap (a b : Fin 32) (c : Fin 8) : Statement (.fswap a b c) := by
  intro _
  simp only [encodeFields]
  omega

theorem fcneg (d a : Fin 32) (c : Fin 8) : Statement (.fcneg d a c) := by
  intro _
  simp only [encodeFields]
  omega

theorem fsetb (d : Fin 32) (n : Fin 4) : Statement (.fsetb d n) := by
  intro _
  simp only [encodeFields]
  omega

theorem fgetb (n : Fin 4) (a : Fin 32) : Statement (.fgetb n a) := by
  intro _
  simp only [encodeFields]
  omega

theorem fldl (d : Fin 32) (n : Fin 4) : Statement (.fldl d n) := by
  intro _
  simp only [encodeFields]
  omega

theorem fstl (n : Fin 4) (a : Fin 32) : Statement (.fstl n a) := by
  intro _
  simp only [encodeFields]
  omega

theorem smov (d a : Fin 8) : Statement (.smov d a) := by
  intro _
  simp only [encodeFields]
  omega

theorem sadd (d a b : Fin 8) : Statement (.sadd d a b) := by
  intro _
  simp only [encodeFields]
  omega

theorem ssub (d a b : Fin 8) : Statement (.ssub d a b) := by
  intro _
  simp only [encodeFields]
  omega

theorem sneg (d a : Fin 8) : Statement (.sneg d a) := by
  intro _
  simp only [encodeFields]
  omega

theorem smul (d a b : Fin 8) : Statement (.smul d a b) := by
  intro _
  simp only [encodeFields]
  omega

theorem sinv (d a : Fin 8) : Statement (.sinv d a) := by
  intro _
  simp only [encodeFields]
  omega

theorem seq (k a b : Fin 8) : Statement (.seq k a b) := by
  intro _
  simp only [encodeFields]
  omega

theorem ssetc (d : Fin 8) (n : Fin 4) : Statement (.ssetc d n) := by
  intro _
  simp only [encodeFields]
  omega

theorem ssetu (d : Fin 8) (n : Fin 4) : Statement (.ssetu d n) := by
  intro _
  simp only [encodeFields]
  omega

theorem ssetcl (d : Fin 8) (n : Fin 4) : Statement (.ssetcl d n) := by
  intro _
  simp only [encodeFields]
  omega

theorem sgetb (n : Fin 4) (a : Fin 8) : Statement (.sgetb n a) := by
  intro _
  simp only [encodeFields]
  omega

theorem srdx16 (g a : Fin 8) : Statement (.srdx16 g a) := by
  intro _
  simp only [encodeFields]
  omega

theorem snaf (g a : Fin 8) (w : Nat) : Statement (.snaf g a w) := by
  intro h
  simp only [Instr.wellFormed, legalNafWidth, Bool.or_eq_true, beq_iff_eq] at h
  simp only [encodeFields]
  omega

theorem jfromp (d : Fin 4) (a : Fin 16) : Statement (.jfromp d a) := by
  intro _
  simp only [encodeFields]
  omega

theorem jfromc (d a : Fin 4) : Statement (.jfromc d a) := by
  intro _
  simp only [encodeFields]
  omega

theorem pfromc (d : Fin 16) (a : Fin 4) : Statement (.pfromc d a) := by
  intro _
  simp only [encodeFields]
  omega

theorem qfromp (d : Fin 8) (a : Fin 16) : Statement (.qfromp d a) := by
  intro _
  simp only [encodeFields]
  omega

theorem afromp (d : Fin 8) (a : Fin 16) : Statement (.afromp d a) := by
  intro _
  simp only [encodeFields]
  omega

theorem cadd (d : Fin 4) (a : Fin 16) (b : Fin 8) : Statement (.cadd d a b) := by
  intro _
  simp only [encodeFields]
  omega

theorem csub (d : Fin 4) (a : Fin 16) (b : Fin 8) : Statement (.csub d a b) := by
  intro _
  simp only [encodeFields]
  omega

theorem cadda (d : Fin 4) (a : Fin 16) (b : Fin 8) : Statement (.cadda d a b) := by
  intro _
  simp only [encodeFields]
  omega

theorem csuba (d : Fin 4) (a : Fin 16) (b : Fin 8) : Statement (.csuba d a b) := by
  intro _
  simp only [encodeFields]
  omega

theorem cdbl (d a : Fin 4) : Statement (.cdbl d a) := by
  intro _
  simp only [encodeFields]
  omega

theorem ltbuild (d : Fin 8) (a : Fin 16) : Statement (.ltbuild d a) := by
  intro _
  simp only [encodeFields]
  omega

theorem ltsel (d a b : Fin 8) (i : Fin 256) : Statement (.ltsel d a b i) := by
  intro _
  simp only [encodeFields]
  omega

theorem ltseli (d a : Fin 8) (x : Int) : Statement (.ltseli d a x) := by
  intro h
  simp only [Instr.wellFormed, legalDigit, Bool.and_eq_true, decide_eq_true_eq] at h
  simp only [encodeFields, digitImm]
  omega

theorem atbuild (d : Fin 2) (a : Fin 16) : Statement (.atbuild d a) := by
  intro _
  simp only [encodeFields]
  omega

theorem atsel (d : Fin 8) (a : Fin 2) (b : Fin 8) (i : Fin 256) : Statement (.atsel d a b i) := by
  intro _
  simp only [encodeFields]
  omega

theorem atseli (d : Fin 8) (a : Fin 2) (x : Int) : Statement (.atseli d a x) := by
  intro h
  simp only [Instr.wellFormed, legalDigit, Bool.and_eq_true, decide_eq_true_eq] at h
  simp only [encodeFields, digitImm]
  omega

theorem btsel (d : Fin 8) (r : Fin 32) (b : Fin 8) (i : Fin 256) : Statement (.btsel d r b i) := by
  intro _
  simp only [encodeFields]
  omega

theorem btseli (d : Fin 8) (r : Fin 32) (x : Int) : Statement (.btseli d r x) := by
  intro h
  simp only [Instr.wellFormed, legalDigit, Bool.and_eq_true, decide_eq_true_eq] at h
  simp only [encodeFields, digitImm]
  omega

theorem ntbuild (d : Fin 8) (a : Fin 16) : Statement (.ntbuild d a) := by
  intro _
  simp only [encodeFields]
  omega

theorem ntsel (d a : Fin 8) (m : Nat) : Statement (.ntsel d a m) := by
  intro h
  simp only [Instr.wellFormed, legalOdd, Bool.and_eq_true, decide_eq_true_eq, beq_iff_eq] at h
  simp only [encodeFields]
  omega

theorem bnsel (d : Fin 8) (m : Nat) : Statement (.bnsel d m) := by
  intro h
  simp only [Instr.wellFormed, legalOdd, Bool.and_eq_true, decide_eq_true_eq, beq_iff_eq] at h
  simp only [encodeFields]
  omega

theorem pident (d : Fin 16) : Statement (.pident d) := by
  intro _
  simp only [encodeFields]
  omega

theorem pgen (d : Fin 16) : Statement (.pgen d) := by
  intro _
  simp only [encodeFields]
  omega

theorem pmov (d a : Fin 16) : Statement (.pmov d a) := by
  intro _
  simp only [encodeFields]
  omega

theorem psetb (d : Fin 16) (n : Fin 4) : Statement (.psetb d n) := by
  intro _
  simp only [encodeFields]
  omega

theorem pgetb (n : Fin 4) (a : Fin 16) : Statement (.pgetb n a) := by
  intro _
  simp only [encodeFields]
  omega

theorem pgetm (n : Fin 4) (a : Fin 16) : Statement (.pgetm n a) := by
  intro _
  simp only [encodeFields]
  omega

theorem padd (d a b : Fin 16) : Statement (.padd d a b) := by
  intro _
  simp only [encodeFields]
  omega

theorem psub (d a b : Fin 16) : Statement (.psub d a b) := by
  intro _
  simp only [encodeFields]
  omega

theorem pneg (d a : Fin 16) : Statement (.pneg d a) := by
  intro _
  simp only [encodeFields]
  omega

theorem peq (k : Fin 8) (a b : Fin 16) : Statement (.peq k a b) := by
  intro _
  simp only [encodeFields]
  omega

theorem pmul8 (d a : Fin 16) : Statement (.pmul8 d a) := by
  intro _
  simp only [encodeFields]
  omega

theorem pmull (d a : Fin 16) : Statement (.pmull d a) := by
  intro _
  simp only [encodeFields]
  omega

theorem pext (d : Fin 29) (a : Fin 16) : Statement (.pext d a) := by
  intro _
  simp only [encodeFields]
  omega

theorem psetext (d : Fin 16) (a : Fin 29) : Statement (.psetext d a) := by
  intro _
  simp only [encodeFields]
  omega

theorem psmul (d : Fin 16) (a : Fin 8) (b : Fin 16) : Statement (.psmul d a b) := by
  intro _
  simp only [encodeFields]
  omega

theorem pbmul (d : Fin 16) (a : Fin 8) : Statement (.pbmul d a) := by
  intro _
  simp only [encodeFields]
  omega

theorem pvdsbm (d : Fin 16) (a : Fin 8) (b : Fin 16) (c : Fin 8) : Statement (.pvdsbm d a b c) := by
  intro _
  simp only [encodeFields]
  omega

theorem pmsm (d : Fin 16) (a : Fin 8) (b : Fin 16) (n : Nat) : Statement (.pmsm d a b n) := by
  intro h
  simp only [Instr.wellFormed, legalPairs, Bool.and_eq_true, decide_eq_true_eq] at h
  simp only [encodeFields]
  omega

theorem pvmsm (d : Fin 16) (a : Fin 8) (b : Fin 16) (n : Nat) : Statement (.pvmsm d a b n) := by
  intro h
  simp only [Instr.wellFormed, legalPairs, Bool.and_eq_true, decide_eq_true_eq] at h
  simp only [encodeFields]
  omega

end Sys2Proof.Laws.FieldsFit
end

