-- ==== Sys2Proof/Laws/Rom.lean ====
section
/-! SUPPORT. Checks of the ROM literals (10_state.md R47 to R49) that do not use the procedure that generated them: the constants satisfy
their defining equations, and every table entry is the right multiple of the generator by the addition law of R238, multiplied out
so that nothing is inverted. -/

namespace Sys2Proof.Laws

open Sys2Proof.Machine

set_option Elab.async false

theorem d_defining : (curveD * 121666 + 121665) % fieldP = 0 ∧ curveD < fieldP := by decide +kernel

theorem d2_defining : curveD2 = 2 * curveD % fieldP := by decide +kernel

theorem sqrtM1_defining : sqrtM1 * sqrtM1 % fieldP = fieldP - 1 := by decide +kernel

/-- `By = 4/5`, the curve equation, `Bt = Bx·By`, and `Bx` is the root with low bit 0 (R20). -/
theorem base_defining :
    5 * baseY % fieldP = 4 ∧ (baseY ^ 2 + fieldP * fieldP - baseX ^ 2) % fieldP = (1 + curveD * baseX ^ 2 * baseY ^ 2) % fieldP ∧
      baseT = baseX * baseY % fieldP ∧ baseX % 2 = 0 := by decide +kernel

/-- `u = 2x` of a cached affine entry, as an integer mod p. -/
def entryU (e : AffineCached) : Nat := (val e.YpX + fieldP - val e.YmX) % fieldP

/-- `v = 2y` of a cached affine entry, as an integer mod p. -/
def entryV (e : AffineCached) : Nat := (val e.YpX + val e.YmX) % fieldP

/-- An entry is canonical, its third component is `2d·x·y`, and `(x, y)` is on the curve; in `u = 2x`, `v = 2y`. -/
def entryOk (e : AffineCached) : Bool :=
  let u := entryU e
  let v := entryV e
  limbs (val e.YpX) == e.YpX && limbs (val e.YmX) == e.YmX && limbs (val e.T2d) == e.T2d &&
    decide (val e.YpX < fieldP) && decide (val e.YmX < fieldP) && decide (val e.T2d < fieldP) &&
    2 * val e.T2d % fieldP == curveD * u * v % fieldP &&
    4 * v ^ 2 % fieldP == (4 * u ^ 2 + 16 + curveD * u ^ 2 * v ^ 2) % fieldP

/-- `e3 = e1 + e2` by the affine addition law, multiplied out: with `K = d·u1·u2·v1·v2`, `u3·(16+K) = 8·(u1·v2 + u2·v1)` and
`v3·(16−K) = 8·(v1·v2 + u1·u2)`, neither factor zero. -/
def entrySum (e1 e2 e3 : AffineCached) : Bool :=
  let u1 := entryU e1
  let v1 := entryV e1
  let u2 := entryU e2
  let v2 := entryV e2
  let k := curveD * u1 * u2 * v1 * v2 % fieldP
  (16 + k) % fieldP != 0 && (16 + fieldP - k) % fieldP != 0 &&
    entryU e3 * (16 + k) % fieldP == 8 * (u1 * v2 + u2 * v1) % fieldP &&
    entryV e3 * (16 + fieldP - k) % fieldP == 8 * (v1 * v2 + u1 * u2) % fieldP

/-- Every entry of a list is the one before it plus `step`. -/
def progression (step : AffineCached) : List AffineCached → Bool
  | e1 :: e2 :: rest => entrySum e1 step e2 && progression step (e2 :: rest)
  | _ => true

/-- The generator in cached form. -/
theorem rom_generator :
    entryOk BPT[0][0] = true ∧ entryU BPT[0][0] = 2 * baseX % fieldP ∧ entryV BPT[0][0] = 2 * baseY % fieldP ∧
      BNT[0][0] = BPT[0][0] := by decide +kernel

/-- Every entry of BPT is canonical and on the curve. -/
theorem rom_rows_valid : ∀ i : Fin 32, ∀ j : Fin 8, entryOk BPT[i][j] = true := by decide +kernel

/-- Every entry of BNT is canonical and on the curve. -/
theorem rom_naf_valid : ∀ i : Fin 8, ∀ j : Fin 8, entryOk BNT[i][j] = true := by decide +kernel

/-- Row `i` holds the multiples 1 to 8 of its first entry (R48, 90_conflicts.md C3). -/
theorem rom_rows_multiples : ∀ i : Fin 32, progression BPT[i][0] BPT[i].toList = true := by decide +kernel

/-- The odd multiples step by `2·B` = `BPT[0][1]`, through all 64 entries (R49, 90_conflicts.md C2). -/
theorem rom_naf_multiples :
    progression BPT[0][1] (BNT[0].toList ++ BNT[1].toList ++ BNT[2].toList ++ BNT[3].toList ++ BNT[4].toList ++ BNT[5].toList ++
      BNT[6].toList ++ BNT[7].toList) = true := by decide +kernel

/-- A cached affine entry as a P3 point over `Z = 4`: `(4x, 4y, 4, 4xy)`, with `u = 2x` and `v = 2y`. -/
def entryPoint (e : AffineCached) : P3 :=
  ⟨limbs (2 * entryU e % fieldP), limbs (2 * entryV e % fieldP), limbs 4, limbs (entryU e * entryV e % fieldP)⟩

/-- Row `i+1` starts at 256 times row `i`'s start (R48), by eight of the block's own doublings. -/
theorem rom_rows_chain :
    ∀ i : Fin 31, ptEq (ptMul16 (ptMul16 (entryPoint BPT[i.castSucc][0]))) (entryPoint BPT[i.succ][0]) = true := by
  decide +kernel

/-- `BPT[1][0]`, printed in R238. -/
theorem rom_sample_row1 :
    BPT[1][0] =
      ⟨⟨0x4dd0e632f9c1d, 0x2ced12622a5d9, 0x18de9614742da, 0x79ca96fdbb5d4, 0x6dd37d49a00ee⟩,
        ⟨0x3635449aa515e, 0x3e178d0475dab, 0x50b4712a19712, 0x2dcc2860ff4ad, 0x30d76d6f03d31⟩,
        ⟨0x444172106e4c7, 0x01251afed2d88, 0x534fc9bed4f5a, 0x5d85a39cf5234, 0x10c697112e864⟩⟩ := by decide +kernel

/-- `BPT[31][7]`, printed in R238. -/
theorem rom_sample_row31 :
    BPT[31][7] =
      ⟨⟨0x3bb8a42a975fc, 0x6f2d5b46b17ef, 0x7b6a9223170e5, 0x053713fe3b7e6, 0x19735fd7f6bc2⟩,
        ⟨0x492af49c5342e, 0x2365cdf5a0357, 0x32138a7ffbb60, 0x2a1f7d14646fe, 0x11b5df18a44cc⟩,
        ⟨0x390d042c84266, 0x1efe32a8fdc75, 0x6925ee7ae1238, 0x4af9281d0e832, 0x0fef911191df8⟩⟩ := by decide +kernel

/-- `BNT[63]`, printed in R238. -/
theorem rom_sample_naf63 :
    BNT[7][7] =
      ⟨⟨0x66e3f94234b1c, 0x4d36843821f07, 0x711529721ed87, 0x03aa2a599d849, 0x2ba60fa9c3cdc⟩,
        ⟨0x6a138a034513c, 0x5e8df3a73beec, 0x51b92983f9880, 0x1e994571c80c6, 0x44ef4632b581b⟩,
        ⟨0x6491c21d364c9, 0x58ca44944b47a, 0x01c725d1768ee, 0x1e7ab7a88ece0, 0x7054899c44b5f⟩⟩ := by decide +kernel

end Sys2Proof.Laws
end

