-- ==== Sys2Proof/Laws/State.lean ====
section
/-! SUPPORT. What each named update leaves in each field of the state: one lemma per field per update, each true by unfolding. -/

namespace Sys2Proof.Laws

open Sys2Proof.Machine

@[simp] theorem setF_F (d : Fin 32) (v : Limbs) (s : State) : (setF d v s).F = s.F.set d v := rfl
@[simp] theorem setF_S (d : Fin 32) (v : Limbs) (s : State) : (setF d v s).S = s.S := rfl
@[simp] theorem setF_P (d : Fin 32) (v : Limbs) (s : State) : (setF d v s).P = s.P := rfl
@[simp] theorem setF_J (d : Fin 32) (v : Limbs) (s : State) : (setF d v s).J = s.J := rfl
@[simp] theorem setF_C (d : Fin 32) (v : Limbs) (s : State) : (setF d v s).C = s.C := rfl
@[simp] theorem setF_Q (d : Fin 32) (v : Limbs) (s : State) : (setF d v s).Q = s.Q := rfl
@[simp] theorem setF_A (d : Fin 32) (v : Limbs) (s : State) : (setF d v s).A = s.A := rfl
@[simp] theorem setF_LT (d : Fin 32) (v : Limbs) (s : State) : (setF d v s).LT = s.LT := rfl
@[simp] theorem setF_AT (d : Fin 32) (v : Limbs) (s : State) : (setF d v s).AT = s.AT := rfl
@[simp] theorem setF_NT (d : Fin 32) (v : Limbs) (s : State) : (setF d v s).NT = s.NT := rfl
@[simp] theorem setF_DG (d : Fin 32) (v : Limbs) (s : State) : (setF d v s).DG = s.DG := rfl
@[simp] theorem setF_K (d : Fin 32) (v : Limbs) (s : State) : (setF d v s).K = s.K := rfl
@[simp] theorem setF_IO (d : Fin 32) (v : Limbs) (s : State) : (setF d v s).IO = s.IO := rfl
@[simp] theorem setF_IOLEN (d : Fin 32) (v : Limbs) (s : State) : (setF d v s).IOLEN = s.IOLEN := rfl
@[simp] theorem setF_ARG (d : Fin 32) (v : Limbs) (s : State) : (setF d v s).ARG = s.ARG := rfl
@[simp] theorem setF_LASTERR (d : Fin 32) (v : Limbs) (s : State) : (setF d v s).LASTERR = s.LASTERR := rfl
@[simp] theorem setF_ERRSTICKY (d : Fin 32) (v : Limbs) (s : State) : (setF d v s).ERRSTICKY = s.ERRSTICKY := rfl
@[simp] theorem setF_CMDCNT (d : Fin 32) (v : Limbs) (s : State) : (setF d v s).CMDCNT = s.CMDCNT := rfl
@[simp] theorem setF_pending (d : Fin 32) (v : Limbs) (s : State) : (setF d v s).pending = s.pending := rfl
@[simp] theorem setF_answer (d : Fin 32) (v : Limbs) (s : State) : (setF d v s).answer = s.answer := rfl

@[simp] theorem setS_F (d : Fin 8) (v : Nat) (s : State) : (setS d v s).F = s.F := rfl
@[simp] theorem setS_S (d : Fin 8) (v : Nat) (s : State) : (setS d v s).S = s.S.set d (BitVec.ofNat 256 v) := rfl
@[simp] theorem setS_P (d : Fin 8) (v : Nat) (s : State) : (setS d v s).P = s.P := rfl
@[simp] theorem setS_J (d : Fin 8) (v : Nat) (s : State) : (setS d v s).J = s.J := rfl
@[simp] theorem setS_C (d : Fin 8) (v : Nat) (s : State) : (setS d v s).C = s.C := rfl
@[simp] theorem setS_Q (d : Fin 8) (v : Nat) (s : State) : (setS d v s).Q = s.Q := rfl
@[simp] theorem setS_A (d : Fin 8) (v : Nat) (s : State) : (setS d v s).A = s.A := rfl
@[simp] theorem setS_LT (d : Fin 8) (v : Nat) (s : State) : (setS d v s).LT = s.LT := rfl
@[simp] theorem setS_AT (d : Fin 8) (v : Nat) (s : State) : (setS d v s).AT = s.AT := rfl
@[simp] theorem setS_NT (d : Fin 8) (v : Nat) (s : State) : (setS d v s).NT = s.NT := rfl
@[simp] theorem setS_DG (d : Fin 8) (v : Nat) (s : State) : (setS d v s).DG = s.DG := rfl
@[simp] theorem setS_K (d : Fin 8) (v : Nat) (s : State) : (setS d v s).K = s.K := rfl
@[simp] theorem setS_IO (d : Fin 8) (v : Nat) (s : State) : (setS d v s).IO = s.IO := rfl
@[simp] theorem setS_IOLEN (d : Fin 8) (v : Nat) (s : State) : (setS d v s).IOLEN = s.IOLEN := rfl
@[simp] theorem setS_ARG (d : Fin 8) (v : Nat) (s : State) : (setS d v s).ARG = s.ARG := rfl
@[simp] theorem setS_LASTERR (d : Fin 8) (v : Nat) (s : State) : (setS d v s).LASTERR = s.LASTERR := rfl
@[simp] theorem setS_ERRSTICKY (d : Fin 8) (v : Nat) (s : State) : (setS d v s).ERRSTICKY = s.ERRSTICKY := rfl
@[simp] theorem setS_CMDCNT (d : Fin 8) (v : Nat) (s : State) : (setS d v s).CMDCNT = s.CMDCNT := rfl
@[simp] theorem setS_pending (d : Fin 8) (v : Nat) (s : State) : (setS d v s).pending = s.pending := rfl
@[simp] theorem setS_answer (d : Fin 8) (v : Nat) (s : State) : (setS d v s).answer = s.answer := rfl

@[simp] theorem setP_F (d : Fin 16) (v : P3) (s : State) : (setP d v s).F = s.F := rfl
@[simp] theorem setP_S (d : Fin 16) (v : P3) (s : State) : (setP d v s).S = s.S := rfl
@[simp] theorem setP_P (d : Fin 16) (v : P3) (s : State) : (setP d v s).P = s.P.set d ⟨true, v⟩ := rfl
@[simp] theorem setP_J (d : Fin 16) (v : P3) (s : State) : (setP d v s).J = s.J := rfl
@[simp] theorem setP_C (d : Fin 16) (v : P3) (s : State) : (setP d v s).C = s.C := rfl
@[simp] theorem setP_Q (d : Fin 16) (v : P3) (s : State) : (setP d v s).Q = s.Q := rfl
@[simp] theorem setP_A (d : Fin 16) (v : P3) (s : State) : (setP d v s).A = s.A := rfl
@[simp] theorem setP_LT (d : Fin 16) (v : P3) (s : State) : (setP d v s).LT = s.LT := rfl
@[simp] theorem setP_AT (d : Fin 16) (v : P3) (s : State) : (setP d v s).AT = s.AT := rfl
@[simp] theorem setP_NT (d : Fin 16) (v : P3) (s : State) : (setP d v s).NT = s.NT := rfl
@[simp] theorem setP_DG (d : Fin 16) (v : P3) (s : State) : (setP d v s).DG = s.DG := rfl
@[simp] theorem setP_K (d : Fin 16) (v : P3) (s : State) : (setP d v s).K = s.K := rfl
@[simp] theorem setP_IO (d : Fin 16) (v : P3) (s : State) : (setP d v s).IO = s.IO := rfl
@[simp] theorem setP_IOLEN (d : Fin 16) (v : P3) (s : State) : (setP d v s).IOLEN = s.IOLEN := rfl
@[simp] theorem setP_ARG (d : Fin 16) (v : P3) (s : State) : (setP d v s).ARG = s.ARG := rfl
@[simp] theorem setP_LASTERR (d : Fin 16) (v : P3) (s : State) : (setP d v s).LASTERR = s.LASTERR := rfl
@[simp] theorem setP_ERRSTICKY (d : Fin 16) (v : P3) (s : State) : (setP d v s).ERRSTICKY = s.ERRSTICKY := rfl
@[simp] theorem setP_CMDCNT (d : Fin 16) (v : P3) (s : State) : (setP d v s).CMDCNT = s.CMDCNT := rfl
@[simp] theorem setP_pending (d : Fin 16) (v : P3) (s : State) : (setP d v s).pending = s.pending := rfl
@[simp] theorem setP_answer (d : Fin 16) (v : P3) (s : State) : (setP d v s).answer = s.answer := rfl

@[simp] theorem setJ_F (d : Fin 4) (v : P2) (s : State) : (setJ d v s).F = s.F := rfl
@[simp] theorem setJ_S (d : Fin 4) (v : P2) (s : State) : (setJ d v s).S = s.S := rfl
@[simp] theorem setJ_P (d : Fin 4) (v : P2) (s : State) : (setJ d v s).P = s.P := rfl
@[simp] theorem setJ_J (d : Fin 4) (v : P2) (s : State) : (setJ d v s).J = s.J.set d ⟨true, v⟩ := rfl
@[simp] theorem setJ_C (d : Fin 4) (v : P2) (s : State) : (setJ d v s).C = s.C := rfl
@[simp] theorem setJ_Q (d : Fin 4) (v : P2) (s : State) : (setJ d v s).Q = s.Q := rfl
@[simp] theorem setJ_A (d : Fin 4) (v : P2) (s : State) : (setJ d v s).A = s.A := rfl
@[simp] theorem setJ_LT (d : Fin 4) (v : P2) (s : State) : (setJ d v s).LT = s.LT := rfl
@[simp] theorem setJ_AT (d : Fin 4) (v : P2) (s : State) : (setJ d v s).AT = s.AT := rfl
@[simp] theorem setJ_NT (d : Fin 4) (v : P2) (s : State) : (setJ d v s).NT = s.NT := rfl
@[simp] theorem setJ_DG (d : Fin 4) (v : P2) (s : State) : (setJ d v s).DG = s.DG := rfl
@[simp] theorem setJ_K (d : Fin 4) (v : P2) (s : State) : (setJ d v s).K = s.K := rfl
@[simp] theorem setJ_IO (d : Fin 4) (v : P2) (s : State) : (setJ d v s).IO = s.IO := rfl
@[simp] theorem setJ_IOLEN (d : Fin 4) (v : P2) (s : State) : (setJ d v s).IOLEN = s.IOLEN := rfl
@[simp] theorem setJ_ARG (d : Fin 4) (v : P2) (s : State) : (setJ d v s).ARG = s.ARG := rfl
@[simp] theorem setJ_LASTERR (d : Fin 4) (v : P2) (s : State) : (setJ d v s).LASTERR = s.LASTERR := rfl
@[simp] theorem setJ_ERRSTICKY (d : Fin 4) (v : P2) (s : State) : (setJ d v s).ERRSTICKY = s.ERRSTICKY := rfl
@[simp] theorem setJ_CMDCNT (d : Fin 4) (v : P2) (s : State) : (setJ d v s).CMDCNT = s.CMDCNT := rfl
@[simp] theorem setJ_pending (d : Fin 4) (v : P2) (s : State) : (setJ d v s).pending = s.pending := rfl
@[simp] theorem setJ_answer (d : Fin 4) (v : P2) (s : State) : (setJ d v s).answer = s.answer := rfl

@[simp] theorem setC_F (d : Fin 4) (v : P1xP1) (s : State) : (setC d v s).F = s.F := rfl
@[simp] theorem setC_S (d : Fin 4) (v : P1xP1) (s : State) : (setC d v s).S = s.S := rfl
@[simp] theorem setC_P (d : Fin 4) (v : P1xP1) (s : State) : (setC d v s).P = s.P := rfl
@[simp] theorem setC_J (d : Fin 4) (v : P1xP1) (s : State) : (setC d v s).J = s.J := rfl
@[simp] theorem setC_C (d : Fin 4) (v : P1xP1) (s : State) : (setC d v s).C = s.C.set d ⟨true, v⟩ := rfl
@[simp] theorem setC_Q (d : Fin 4) (v : P1xP1) (s : State) : (setC d v s).Q = s.Q := rfl
@[simp] theorem setC_A (d : Fin 4) (v : P1xP1) (s : State) : (setC d v s).A = s.A := rfl
@[simp] theorem setC_LT (d : Fin 4) (v : P1xP1) (s : State) : (setC d v s).LT = s.LT := rfl
@[simp] theorem setC_AT (d : Fin 4) (v : P1xP1) (s : State) : (setC d v s).AT = s.AT := rfl
@[simp] theorem setC_NT (d : Fin 4) (v : P1xP1) (s : State) : (setC d v s).NT = s.NT := rfl
@[simp] theorem setC_DG (d : Fin 4) (v : P1xP1) (s : State) : (setC d v s).DG = s.DG := rfl
@[simp] theorem setC_K (d : Fin 4) (v : P1xP1) (s : State) : (setC d v s).K = s.K := rfl
@[simp] theorem setC_IO (d : Fin 4) (v : P1xP1) (s : State) : (setC d v s).IO = s.IO := rfl
@[simp] theorem setC_IOLEN (d : Fin 4) (v : P1xP1) (s : State) : (setC d v s).IOLEN = s.IOLEN := rfl
@[simp] theorem setC_ARG (d : Fin 4) (v : P1xP1) (s : State) : (setC d v s).ARG = s.ARG := rfl
@[simp] theorem setC_LASTERR (d : Fin 4) (v : P1xP1) (s : State) : (setC d v s).LASTERR = s.LASTERR := rfl
@[simp] theorem setC_ERRSTICKY (d : Fin 4) (v : P1xP1) (s : State) : (setC d v s).ERRSTICKY = s.ERRSTICKY := rfl
@[simp] theorem setC_CMDCNT (d : Fin 4) (v : P1xP1) (s : State) : (setC d v s).CMDCNT = s.CMDCNT := rfl
@[simp] theorem setC_pending (d : Fin 4) (v : P1xP1) (s : State) : (setC d v s).pending = s.pending := rfl
@[simp] theorem setC_answer (d : Fin 4) (v : P1xP1) (s : State) : (setC d v s).answer = s.answer := rfl

@[simp] theorem setQ_F (d : Fin 8) (v : ProjCached) (s : State) : (setQ d v s).F = s.F := rfl
@[simp] theorem setQ_S (d : Fin 8) (v : ProjCached) (s : State) : (setQ d v s).S = s.S := rfl
@[simp] theorem setQ_P (d : Fin 8) (v : ProjCached) (s : State) : (setQ d v s).P = s.P := rfl
@[simp] theorem setQ_J (d : Fin 8) (v : ProjCached) (s : State) : (setQ d v s).J = s.J := rfl
@[simp] theorem setQ_C (d : Fin 8) (v : ProjCached) (s : State) : (setQ d v s).C = s.C := rfl
@[simp] theorem setQ_Q (d : Fin 8) (v : ProjCached) (s : State) : (setQ d v s).Q = s.Q.set d ⟨true, v⟩ := rfl
@[simp] theorem setQ_A (d : Fin 8) (v : ProjCached) (s : State) : (setQ d v s).A = s.A := rfl
@[simp] theorem setQ_LT (d : Fin 8) (v : ProjCached) (s : State) : (setQ d v s).LT = s.LT := rfl
@[simp] theorem setQ_AT (d : Fin 8) (v : ProjCached) (s : State) : (setQ d v s).AT = s.AT := rfl
@[simp] theorem setQ_NT (d : Fin 8) (v : ProjCached) (s : State) : (setQ d v s).NT = s.NT := rfl
@[simp] theorem setQ_DG (d : Fin 8) (v : ProjCached) (s : State) : (setQ d v s).DG = s.DG := rfl
@[simp] theorem setQ_K (d : Fin 8) (v : ProjCached) (s : State) : (setQ d v s).K = s.K := rfl
@[simp] theorem setQ_IO (d : Fin 8) (v : ProjCached) (s : State) : (setQ d v s).IO = s.IO := rfl
@[simp] theorem setQ_IOLEN (d : Fin 8) (v : ProjCached) (s : State) : (setQ d v s).IOLEN = s.IOLEN := rfl
@[simp] theorem setQ_ARG (d : Fin 8) (v : ProjCached) (s : State) : (setQ d v s).ARG = s.ARG := rfl
@[simp] theorem setQ_LASTERR (d : Fin 8) (v : ProjCached) (s : State) : (setQ d v s).LASTERR = s.LASTERR := rfl
@[simp] theorem setQ_ERRSTICKY (d : Fin 8) (v : ProjCached) (s : State) : (setQ d v s).ERRSTICKY = s.ERRSTICKY := rfl
@[simp] theorem setQ_CMDCNT (d : Fin 8) (v : ProjCached) (s : State) : (setQ d v s).CMDCNT = s.CMDCNT := rfl
@[simp] theorem setQ_pending (d : Fin 8) (v : ProjCached) (s : State) : (setQ d v s).pending = s.pending := rfl
@[simp] theorem setQ_answer (d : Fin 8) (v : ProjCached) (s : State) : (setQ d v s).answer = s.answer := rfl

@[simp] theorem setA_F (d : Fin 8) (v : AffineCached) (s : State) : (setA d v s).F = s.F := rfl
@[simp] theorem setA_S (d : Fin 8) (v : AffineCached) (s : State) : (setA d v s).S = s.S := rfl
@[simp] theorem setA_P (d : Fin 8) (v : AffineCached) (s : State) : (setA d v s).P = s.P := rfl
@[simp] theorem setA_J (d : Fin 8) (v : AffineCached) (s : State) : (setA d v s).J = s.J := rfl
@[simp] theorem setA_C (d : Fin 8) (v : AffineCached) (s : State) : (setA d v s).C = s.C := rfl
@[simp] theorem setA_Q (d : Fin 8) (v : AffineCached) (s : State) : (setA d v s).Q = s.Q := rfl
@[simp] theorem setA_A (d : Fin 8) (v : AffineCached) (s : State) : (setA d v s).A = s.A.set d ⟨true, v⟩ := rfl
@[simp] theorem setA_LT (d : Fin 8) (v : AffineCached) (s : State) : (setA d v s).LT = s.LT := rfl
@[simp] theorem setA_AT (d : Fin 8) (v : AffineCached) (s : State) : (setA d v s).AT = s.AT := rfl
@[simp] theorem setA_NT (d : Fin 8) (v : AffineCached) (s : State) : (setA d v s).NT = s.NT := rfl
@[simp] theorem setA_DG (d : Fin 8) (v : AffineCached) (s : State) : (setA d v s).DG = s.DG := rfl
@[simp] theorem setA_K (d : Fin 8) (v : AffineCached) (s : State) : (setA d v s).K = s.K := rfl
@[simp] theorem setA_IO (d : Fin 8) (v : AffineCached) (s : State) : (setA d v s).IO = s.IO := rfl
@[simp] theorem setA_IOLEN (d : Fin 8) (v : AffineCached) (s : State) : (setA d v s).IOLEN = s.IOLEN := rfl
@[simp] theorem setA_ARG (d : Fin 8) (v : AffineCached) (s : State) : (setA d v s).ARG = s.ARG := rfl
@[simp] theorem setA_LASTERR (d : Fin 8) (v : AffineCached) (s : State) : (setA d v s).LASTERR = s.LASTERR := rfl
@[simp] theorem setA_ERRSTICKY (d : Fin 8) (v : AffineCached) (s : State) : (setA d v s).ERRSTICKY = s.ERRSTICKY := rfl
@[simp] theorem setA_CMDCNT (d : Fin 8) (v : AffineCached) (s : State) : (setA d v s).CMDCNT = s.CMDCNT := rfl
@[simp] theorem setA_pending (d : Fin 8) (v : AffineCached) (s : State) : (setA d v s).pending = s.pending := rfl
@[simp] theorem setA_answer (d : Fin 8) (v : AffineCached) (s : State) : (setA d v s).answer = s.answer := rfl

@[simp] theorem setLT_F (d : Fin 8) (v : ProjTable) (s : State) : (setLT d v s).F = s.F := rfl
@[simp] theorem setLT_S (d : Fin 8) (v : ProjTable) (s : State) : (setLT d v s).S = s.S := rfl
@[simp] theorem setLT_P (d : Fin 8) (v : ProjTable) (s : State) : (setLT d v s).P = s.P := rfl
@[simp] theorem setLT_J (d : Fin 8) (v : ProjTable) (s : State) : (setLT d v s).J = s.J := rfl
@[simp] theorem setLT_C (d : Fin 8) (v : ProjTable) (s : State) : (setLT d v s).C = s.C := rfl
@[simp] theorem setLT_Q (d : Fin 8) (v : ProjTable) (s : State) : (setLT d v s).Q = s.Q := rfl
@[simp] theorem setLT_A (d : Fin 8) (v : ProjTable) (s : State) : (setLT d v s).A = s.A := rfl
@[simp] theorem setLT_LT (d : Fin 8) (v : ProjTable) (s : State) : (setLT d v s).LT = s.LT.set d ⟨true, v⟩ := rfl
@[simp] theorem setLT_AT (d : Fin 8) (v : ProjTable) (s : State) : (setLT d v s).AT = s.AT := rfl
@[simp] theorem setLT_NT (d : Fin 8) (v : ProjTable) (s : State) : (setLT d v s).NT = s.NT := rfl
@[simp] theorem setLT_DG (d : Fin 8) (v : ProjTable) (s : State) : (setLT d v s).DG = s.DG := rfl
@[simp] theorem setLT_K (d : Fin 8) (v : ProjTable) (s : State) : (setLT d v s).K = s.K := rfl
@[simp] theorem setLT_IO (d : Fin 8) (v : ProjTable) (s : State) : (setLT d v s).IO = s.IO := rfl
@[simp] theorem setLT_IOLEN (d : Fin 8) (v : ProjTable) (s : State) : (setLT d v s).IOLEN = s.IOLEN := rfl
@[simp] theorem setLT_ARG (d : Fin 8) (v : ProjTable) (s : State) : (setLT d v s).ARG = s.ARG := rfl
@[simp] theorem setLT_LASTERR (d : Fin 8) (v : ProjTable) (s : State) : (setLT d v s).LASTERR = s.LASTERR := rfl
@[simp] theorem setLT_ERRSTICKY (d : Fin 8) (v : ProjTable) (s : State) : (setLT d v s).ERRSTICKY = s.ERRSTICKY := rfl
@[simp] theorem setLT_CMDCNT (d : Fin 8) (v : ProjTable) (s : State) : (setLT d v s).CMDCNT = s.CMDCNT := rfl
@[simp] theorem setLT_pending (d : Fin 8) (v : ProjTable) (s : State) : (setLT d v s).pending = s.pending := rfl
@[simp] theorem setLT_answer (d : Fin 8) (v : ProjTable) (s : State) : (setLT d v s).answer = s.answer := rfl

@[simp] theorem setAT_F (d : Fin 2) (v : AffineTable) (s : State) : (setAT d v s).F = s.F := rfl
@[simp] theorem setAT_S (d : Fin 2) (v : AffineTable) (s : State) : (setAT d v s).S = s.S := rfl
@[simp] theorem setAT_P (d : Fin 2) (v : AffineTable) (s : State) : (setAT d v s).P = s.P := rfl
@[simp] theorem setAT_J (d : Fin 2) (v : AffineTable) (s : State) : (setAT d v s).J = s.J := rfl
@[simp] theorem setAT_C (d : Fin 2) (v : AffineTable) (s : State) : (setAT d v s).C = s.C := rfl
@[simp] theorem setAT_Q (d : Fin 2) (v : AffineTable) (s : State) : (setAT d v s).Q = s.Q := rfl
@[simp] theorem setAT_A (d : Fin 2) (v : AffineTable) (s : State) : (setAT d v s).A = s.A := rfl
@[simp] theorem setAT_LT (d : Fin 2) (v : AffineTable) (s : State) : (setAT d v s).LT = s.LT := rfl
@[simp] theorem setAT_AT (d : Fin 2) (v : AffineTable) (s : State) : (setAT d v s).AT = s.AT.set d ⟨true, v⟩ := rfl
@[simp] theorem setAT_NT (d : Fin 2) (v : AffineTable) (s : State) : (setAT d v s).NT = s.NT := rfl
@[simp] theorem setAT_DG (d : Fin 2) (v : AffineTable) (s : State) : (setAT d v s).DG = s.DG := rfl
@[simp] theorem setAT_K (d : Fin 2) (v : AffineTable) (s : State) : (setAT d v s).K = s.K := rfl
@[simp] theorem setAT_IO (d : Fin 2) (v : AffineTable) (s : State) : (setAT d v s).IO = s.IO := rfl
@[simp] theorem setAT_IOLEN (d : Fin 2) (v : AffineTable) (s : State) : (setAT d v s).IOLEN = s.IOLEN := rfl
@[simp] theorem setAT_ARG (d : Fin 2) (v : AffineTable) (s : State) : (setAT d v s).ARG = s.ARG := rfl
@[simp] theorem setAT_LASTERR (d : Fin 2) (v : AffineTable) (s : State) : (setAT d v s).LASTERR = s.LASTERR := rfl
@[simp] theorem setAT_ERRSTICKY (d : Fin 2) (v : AffineTable) (s : State) : (setAT d v s).ERRSTICKY = s.ERRSTICKY := rfl
@[simp] theorem setAT_CMDCNT (d : Fin 2) (v : AffineTable) (s : State) : (setAT d v s).CMDCNT = s.CMDCNT := rfl
@[simp] theorem setAT_pending (d : Fin 2) (v : AffineTable) (s : State) : (setAT d v s).pending = s.pending := rfl
@[simp] theorem setAT_answer (d : Fin 2) (v : AffineTable) (s : State) : (setAT d v s).answer = s.answer := rfl

@[simp] theorem setNT_F (d : Fin 8) (v : ProjTable) (s : State) : (setNT d v s).F = s.F := rfl
@[simp] theorem setNT_S (d : Fin 8) (v : ProjTable) (s : State) : (setNT d v s).S = s.S := rfl
@[simp] theorem setNT_P (d : Fin 8) (v : ProjTable) (s : State) : (setNT d v s).P = s.P := rfl
@[simp] theorem setNT_J (d : Fin 8) (v : ProjTable) (s : State) : (setNT d v s).J = s.J := rfl
@[simp] theorem setNT_C (d : Fin 8) (v : ProjTable) (s : State) : (setNT d v s).C = s.C := rfl
@[simp] theorem setNT_Q (d : Fin 8) (v : ProjTable) (s : State) : (setNT d v s).Q = s.Q := rfl
@[simp] theorem setNT_A (d : Fin 8) (v : ProjTable) (s : State) : (setNT d v s).A = s.A := rfl
@[simp] theorem setNT_LT (d : Fin 8) (v : ProjTable) (s : State) : (setNT d v s).LT = s.LT := rfl
@[simp] theorem setNT_AT (d : Fin 8) (v : ProjTable) (s : State) : (setNT d v s).AT = s.AT := rfl
@[simp] theorem setNT_NT (d : Fin 8) (v : ProjTable) (s : State) : (setNT d v s).NT = s.NT.set d ⟨true, v⟩ := rfl
@[simp] theorem setNT_DG (d : Fin 8) (v : ProjTable) (s : State) : (setNT d v s).DG = s.DG := rfl
@[simp] theorem setNT_K (d : Fin 8) (v : ProjTable) (s : State) : (setNT d v s).K = s.K := rfl
@[simp] theorem setNT_IO (d : Fin 8) (v : ProjTable) (s : State) : (setNT d v s).IO = s.IO := rfl
@[simp] theorem setNT_IOLEN (d : Fin 8) (v : ProjTable) (s : State) : (setNT d v s).IOLEN = s.IOLEN := rfl
@[simp] theorem setNT_ARG (d : Fin 8) (v : ProjTable) (s : State) : (setNT d v s).ARG = s.ARG := rfl
@[simp] theorem setNT_LASTERR (d : Fin 8) (v : ProjTable) (s : State) : (setNT d v s).LASTERR = s.LASTERR := rfl
@[simp] theorem setNT_ERRSTICKY (d : Fin 8) (v : ProjTable) (s : State) : (setNT d v s).ERRSTICKY = s.ERRSTICKY := rfl
@[simp] theorem setNT_CMDCNT (d : Fin 8) (v : ProjTable) (s : State) : (setNT d v s).CMDCNT = s.CMDCNT := rfl
@[simp] theorem setNT_pending (d : Fin 8) (v : ProjTable) (s : State) : (setNT d v s).pending = s.pending := rfl
@[simp] theorem setNT_answer (d : Fin 8) (v : ProjTable) (s : State) : (setNT d v s).answer = s.answer := rfl

@[simp] theorem setDG_F (d : Fin 8) (l : List Int) (s : State) : (setDG d l s).F = s.F := rfl
@[simp] theorem setDG_S (d : Fin 8) (l : List Int) (s : State) : (setDG d l s).S = s.S := rfl
@[simp] theorem setDG_P (d : Fin 8) (l : List Int) (s : State) : (setDG d l s).P = s.P := rfl
@[simp] theorem setDG_J (d : Fin 8) (l : List Int) (s : State) : (setDG d l s).J = s.J := rfl
@[simp] theorem setDG_C (d : Fin 8) (l : List Int) (s : State) : (setDG d l s).C = s.C := rfl
@[simp] theorem setDG_Q (d : Fin 8) (l : List Int) (s : State) : (setDG d l s).Q = s.Q := rfl
@[simp] theorem setDG_A (d : Fin 8) (l : List Int) (s : State) : (setDG d l s).A = s.A := rfl
@[simp] theorem setDG_LT (d : Fin 8) (l : List Int) (s : State) : (setDG d l s).LT = s.LT := rfl
@[simp] theorem setDG_AT (d : Fin 8) (l : List Int) (s : State) : (setDG d l s).AT = s.AT := rfl
@[simp] theorem setDG_NT (d : Fin 8) (l : List Int) (s : State) : (setDG d l s).NT = s.NT := rfl
@[simp] theorem setDG_DG (d : Fin 8) (l : List Int) (s : State) : (setDG d l s).DG = s.DG.set d (digitVector l) := rfl
@[simp] theorem setDG_K (d : Fin 8) (l : List Int) (s : State) : (setDG d l s).K = s.K := rfl
@[simp] theorem setDG_IO (d : Fin 8) (l : List Int) (s : State) : (setDG d l s).IO = s.IO := rfl
@[simp] theorem setDG_IOLEN (d : Fin 8) (l : List Int) (s : State) : (setDG d l s).IOLEN = s.IOLEN := rfl
@[simp] theorem setDG_ARG (d : Fin 8) (l : List Int) (s : State) : (setDG d l s).ARG = s.ARG := rfl
@[simp] theorem setDG_LASTERR (d : Fin 8) (l : List Int) (s : State) : (setDG d l s).LASTERR = s.LASTERR := rfl
@[simp] theorem setDG_ERRSTICKY (d : Fin 8) (l : List Int) (s : State) : (setDG d l s).ERRSTICKY = s.ERRSTICKY := rfl
@[simp] theorem setDG_CMDCNT (d : Fin 8) (l : List Int) (s : State) : (setDG d l s).CMDCNT = s.CMDCNT := rfl
@[simp] theorem setDG_pending (d : Fin 8) (l : List Int) (s : State) : (setDG d l s).pending = s.pending := rfl
@[simp] theorem setDG_answer (d : Fin 8) (l : List Int) (s : State) : (setDG d l s).answer = s.answer := rfl

@[simp] theorem setK_F (d : Fin 8) (b : Bool) (s : State) : (setK d b s).F = s.F := rfl
@[simp] theorem setK_S (d : Fin 8) (b : Bool) (s : State) : (setK d b s).S = s.S := rfl
@[simp] theorem setK_P (d : Fin 8) (b : Bool) (s : State) : (setK d b s).P = s.P := rfl
@[simp] theorem setK_J (d : Fin 8) (b : Bool) (s : State) : (setK d b s).J = s.J := rfl
@[simp] theorem setK_C (d : Fin 8) (b : Bool) (s : State) : (setK d b s).C = s.C := rfl
@[simp] theorem setK_Q (d : Fin 8) (b : Bool) (s : State) : (setK d b s).Q = s.Q := rfl
@[simp] theorem setK_A (d : Fin 8) (b : Bool) (s : State) : (setK d b s).A = s.A := rfl
@[simp] theorem setK_LT (d : Fin 8) (b : Bool) (s : State) : (setK d b s).LT = s.LT := rfl
@[simp] theorem setK_AT (d : Fin 8) (b : Bool) (s : State) : (setK d b s).AT = s.AT := rfl
@[simp] theorem setK_NT (d : Fin 8) (b : Bool) (s : State) : (setK d b s).NT = s.NT := rfl
@[simp] theorem setK_DG (d : Fin 8) (b : Bool) (s : State) : (setK d b s).DG = s.DG := rfl
@[simp] theorem setK_K (d : Fin 8) (b : Bool) (s : State) : (setK d b s).K = s.K.set d b := rfl
@[simp] theorem setK_IO (d : Fin 8) (b : Bool) (s : State) : (setK d b s).IO = s.IO := rfl
@[simp] theorem setK_IOLEN (d : Fin 8) (b : Bool) (s : State) : (setK d b s).IOLEN = s.IOLEN := rfl
@[simp] theorem setK_ARG (d : Fin 8) (b : Bool) (s : State) : (setK d b s).ARG = s.ARG := rfl
@[simp] theorem setK_LASTERR (d : Fin 8) (b : Bool) (s : State) : (setK d b s).LASTERR = s.LASTERR := rfl
@[simp] theorem setK_ERRSTICKY (d : Fin 8) (b : Bool) (s : State) : (setK d b s).ERRSTICKY = s.ERRSTICKY := rfl
@[simp] theorem setK_CMDCNT (d : Fin 8) (b : Bool) (s : State) : (setK d b s).CMDCNT = s.CMDCNT := rfl
@[simp] theorem setK_pending (d : Fin 8) (b : Bool) (s : State) : (setK d b s).pending = s.pending := rfl
@[simp] theorem setK_answer (d : Fin 8) (b : Bool) (s : State) : (setK d b s).answer = s.answer := rfl

@[simp] theorem ioWrite_F (n : Fin 4) (b : List Byte) (s : State) : (ioWrite n b s).F = s.F := rfl
@[simp] theorem ioWrite_S (n : Fin 4) (b : List Byte) (s : State) : (ioWrite n b s).S = s.S := rfl
@[simp] theorem ioWrite_P (n : Fin 4) (b : List Byte) (s : State) : (ioWrite n b s).P = s.P := rfl
@[simp] theorem ioWrite_J (n : Fin 4) (b : List Byte) (s : State) : (ioWrite n b s).J = s.J := rfl
@[simp] theorem ioWrite_C (n : Fin 4) (b : List Byte) (s : State) : (ioWrite n b s).C = s.C := rfl
@[simp] theorem ioWrite_Q (n : Fin 4) (b : List Byte) (s : State) : (ioWrite n b s).Q = s.Q := rfl
@[simp] theorem ioWrite_A (n : Fin 4) (b : List Byte) (s : State) : (ioWrite n b s).A = s.A := rfl
@[simp] theorem ioWrite_LT (n : Fin 4) (b : List Byte) (s : State) : (ioWrite n b s).LT = s.LT := rfl
@[simp] theorem ioWrite_AT (n : Fin 4) (b : List Byte) (s : State) : (ioWrite n b s).AT = s.AT := rfl
@[simp] theorem ioWrite_NT (n : Fin 4) (b : List Byte) (s : State) : (ioWrite n b s).NT = s.NT := rfl
@[simp] theorem ioWrite_DG (n : Fin 4) (b : List Byte) (s : State) : (ioWrite n b s).DG = s.DG := rfl
@[simp] theorem ioWrite_K (n : Fin 4) (b : List Byte) (s : State) : (ioWrite n b s).K = s.K := rfl
@[simp] theorem ioWrite_IO (n : Fin 4) (b : List Byte) (s : State) : (ioWrite n b s).IO = s.IO.writeBytes (ioOffset n 0) (padTo 64 b) := rfl
@[simp] theorem ioWrite_IOLEN (n : Fin 4) (b : List Byte) (s : State) : (ioWrite n b s).IOLEN = s.IOLEN.set n (BitVec.ofNat 7 b.length) := rfl
@[simp] theorem ioWrite_ARG (n : Fin 4) (b : List Byte) (s : State) : (ioWrite n b s).ARG = s.ARG := rfl
@[simp] theorem ioWrite_LASTERR (n : Fin 4) (b : List Byte) (s : State) : (ioWrite n b s).LASTERR = s.LASTERR := rfl
@[simp] theorem ioWrite_ERRSTICKY (n : Fin 4) (b : List Byte) (s : State) : (ioWrite n b s).ERRSTICKY = s.ERRSTICKY := rfl
@[simp] theorem ioWrite_CMDCNT (n : Fin 4) (b : List Byte) (s : State) : (ioWrite n b s).CMDCNT = s.CMDCNT := rfl
@[simp] theorem ioWrite_pending (n : Fin 4) (b : List Byte) (s : State) : (ioWrite n b s).pending = s.pending := rfl
@[simp] theorem ioWrite_answer (n : Fin 4) (b : List Byte) (s : State) : (ioWrite n b s).answer = s.answer := rfl

@[simp] theorem clearSticky_F (v : Word32) (s : State) : (clearSticky v s).F = s.F := rfl
@[simp] theorem clearSticky_S (v : Word32) (s : State) : (clearSticky v s).S = s.S := rfl
@[simp] theorem clearSticky_P (v : Word32) (s : State) : (clearSticky v s).P = s.P := rfl
@[simp] theorem clearSticky_J (v : Word32) (s : State) : (clearSticky v s).J = s.J := rfl
@[simp] theorem clearSticky_C (v : Word32) (s : State) : (clearSticky v s).C = s.C := rfl
@[simp] theorem clearSticky_Q (v : Word32) (s : State) : (clearSticky v s).Q = s.Q := rfl
@[simp] theorem clearSticky_A (v : Word32) (s : State) : (clearSticky v s).A = s.A := rfl
@[simp] theorem clearSticky_LT (v : Word32) (s : State) : (clearSticky v s).LT = s.LT := rfl
@[simp] theorem clearSticky_AT (v : Word32) (s : State) : (clearSticky v s).AT = s.AT := rfl
@[simp] theorem clearSticky_NT (v : Word32) (s : State) : (clearSticky v s).NT = s.NT := rfl
@[simp] theorem clearSticky_DG (v : Word32) (s : State) : (clearSticky v s).DG = s.DG := rfl
@[simp] theorem clearSticky_K (v : Word32) (s : State) : (clearSticky v s).K = s.K := rfl
@[simp] theorem clearSticky_IO (v : Word32) (s : State) : (clearSticky v s).IO = s.IO := rfl
@[simp] theorem clearSticky_IOLEN (v : Word32) (s : State) : (clearSticky v s).IOLEN = s.IOLEN := rfl
@[simp] theorem clearSticky_ARG (v : Word32) (s : State) : (clearSticky v s).ARG = s.ARG := rfl
@[simp] theorem clearSticky_LASTERR (v : Word32) (s : State) : (clearSticky v s).LASTERR = s.LASTERR := rfl
@[simp] theorem clearSticky_ERRSTICKY (v : Word32) (s : State) : (clearSticky v s).ERRSTICKY = s.ERRSTICKY &&& ~~~v := rfl
@[simp] theorem clearSticky_CMDCNT (v : Word32) (s : State) : (clearSticky v s).CMDCNT = s.CMDCNT := rfl
@[simp] theorem clearSticky_pending (v : Word32) (s : State) : (clearSticky v s).pending = s.pending := rfl
@[simp] theorem clearSticky_answer (v : Word32) (s : State) : (clearSticky v s).answer = s.answer := rfl

@[simp] theorem takeAccess_F (l : List Access) (s : State) : (takeAccess l s).F = s.F := rfl
@[simp] theorem takeAccess_S (l : List Access) (s : State) : (takeAccess l s).S = s.S := rfl
@[simp] theorem takeAccess_P (l : List Access) (s : State) : (takeAccess l s).P = s.P := rfl
@[simp] theorem takeAccess_J (l : List Access) (s : State) : (takeAccess l s).J = s.J := rfl
@[simp] theorem takeAccess_C (l : List Access) (s : State) : (takeAccess l s).C = s.C := rfl
@[simp] theorem takeAccess_Q (l : List Access) (s : State) : (takeAccess l s).Q = s.Q := rfl
@[simp] theorem takeAccess_A (l : List Access) (s : State) : (takeAccess l s).A = s.A := rfl
@[simp] theorem takeAccess_LT (l : List Access) (s : State) : (takeAccess l s).LT = s.LT := rfl
@[simp] theorem takeAccess_AT (l : List Access) (s : State) : (takeAccess l s).AT = s.AT := rfl
@[simp] theorem takeAccess_NT (l : List Access) (s : State) : (takeAccess l s).NT = s.NT := rfl
@[simp] theorem takeAccess_DG (l : List Access) (s : State) : (takeAccess l s).DG = s.DG := rfl
@[simp] theorem takeAccess_K (l : List Access) (s : State) : (takeAccess l s).K = s.K := rfl
@[simp] theorem takeAccess_IO (l : List Access) (s : State) : (takeAccess l s).IO = s.IO := rfl
@[simp] theorem takeAccess_IOLEN (l : List Access) (s : State) : (takeAccess l s).IOLEN = s.IOLEN := rfl
@[simp] theorem takeAccess_ARG (l : List Access) (s : State) : (takeAccess l s).ARG = s.ARG := rfl
@[simp] theorem takeAccess_LASTERR (l : List Access) (s : State) : (takeAccess l s).LASTERR = s.LASTERR := rfl
@[simp] theorem takeAccess_ERRSTICKY (l : List Access) (s : State) : (takeAccess l s).ERRSTICKY = s.ERRSTICKY := rfl
@[simp] theorem takeAccess_CMDCNT (l : List Access) (s : State) : (takeAccess l s).CMDCNT = s.CMDCNT := rfl
@[simp] theorem takeAccess_pending (l : List Access) (s : State) : (takeAccess l s).pending = l := rfl
@[simp] theorem takeAccess_answer (l : List Access) (s : State) : (takeAccess l s).answer = none := rfl

end Sys2Proof.Laws
end

