-- ==== Sys2Proof/Tests/Slice0.lean ====
section
/-! SUPPORT. Tests: well-formedness refusals, one decoded word per constructor, refused words, single steps whose expected values the
spec prints, and one witness per statement that has hypotheses. -/

namespace Sys2Proof.Tests

set_option Elab.async false
set_option maxRecDepth 100000

open Sys2Proof.Machine

/-! ## Ill-formed terms, one per check of WellFormed.lean (R92, R95, R97, R102) -/

theorem test_wf_digit_high : (Instr.ltseli 1 2 9).wellFormed = false ∧ (Instr.ltseli 1 2 8).wellFormed = true := by decide

theorem test_wf_digit_low :
    (Instr.atseli 1 1 (-9)).wellFormed = false ∧ (Instr.atseli 1 1 (-8)).wellFormed = true := by decide

theorem test_wf_digit_rom : (Instr.btseli 1 2 9).wellFormed = false ∧ (Instr.btseli 1 2 (-8)).wellFormed = true := by decide

theorem test_wf_naf_width :
    (Instr.snaf 0 1 6).wellFormed = false ∧ (Instr.snaf 0 1 5).wellFormed = true ∧ (Instr.snaf 0 1 8).wellFormed = true := by decide

theorem test_wf_odd15 :
    (Instr.ntsel 0 0 2).wellFormed = false ∧ (Instr.ntsel 0 0 17).wellFormed = false ∧ (Instr.ntsel 0 0 15).wellFormed = true := by decide

theorem test_wf_odd127 :
    (Instr.bnsel 0 4).wellFormed = false ∧ (Instr.bnsel 0 129).wellFormed = false ∧ (Instr.bnsel 0 127).wellFormed = true := by decide

theorem test_wf_pair_count : (Instr.pmsm 0 0 0 9).wellFormed = false ∧ (Instr.pmsm 0 0 8 8).wellFormed = true := by decide

theorem test_wf_pair_scalars : (Instr.pmsm 0 1 0 8).wellFormed = false ∧ (Instr.pvmsm 0 1 0 7).wellFormed = true := by decide

theorem test_wf_pair_points : (Instr.pvmsm 0 0 9 8).wellFormed = false ∧ (Instr.pvmsm 0 0 9 7).wellFormed = true := by decide

/-! ## Decoding: every constructor by a word written out in the fields of R91, OPC_RA_RB_RC_IMM, from its row of R96 -/

theorem test_decode_system :
    decode 0b00000000_00000_00000_00000_000000000 = .ok (.nop) ∧
    decode 0b00000001_00111_00000_00000_000000001 = .ok (.kset 7 true) ∧
    decode 0b00000011_00011_00001_00000_000000011 = .ok (.dgst 3 1 3) ∧
    decode 0b00000100_00100_00011_00011_000000010 = .ok (.xget 4 (.ofQ 3 2)) ∧
    decode 0b00000100_00101_00000_01111_000000011 = .ok (.xget 5 (.ofP 15 3)) ∧
    decode 0b00000100_11111_00001_00011_000000010 = .ok (.xget 31 (.ofJ 3 2)) ∧
    decode 0b00000100_00001_00010_00010_000000011 = .ok (.xget 1 (.ofC 2 3)) ∧
    decode 0b00000100_00010_00100_00111_000000010 = .ok (.xget 2 (.ofA 7 2)) := by decide

theorem test_decode_field_arith :
    decode 0b00010000_01001_00000_00000_000000100 = .ok (.fldc 9 .sqrtm1) ∧
    decode 0b00010001_00010_00001_00000_000000000 = .ok (.fmov 2 1) ∧
    decode 0b00010010_00011_00001_00010_000000000 = .ok (.fadd 3 1 2) ∧
    decode 0b00010011_11111_11110_11101_000000000 = .ok (.fsub 31 30 29) ∧
    decode 0b00010100_00010_11111_00000_000000000 = .ok (.fneg 2 31) ∧
    decode 0b00010101_10000_01000_00100_000000000 = .ok (.fmul 16 8 4) ∧
    decode 0b00010110_00001_10001_00000_000000000 = .ok (.fsqr 1 17) ∧
    decode 0b00010111_00010_00001_00000_000000000 = .ok (.fmul32 2 1) ∧
    decode 0b00011000_00101_00110_00000_000000000 = .ok (.fcarry 5 6) ∧
    decode 0b00011001_00111_01000_00000_000000000 = .ok (.freduce 7 8) := by decide

theorem test_decode_field_functions :
    decode 0b00011010_01001_01010_00000_000000000 = .ok (.finv 9 10) ∧
    decode 0b00011011_01011_01100_00000_000000000 = .ok (.fpow 11 12) ∧
    decode 0b00011100_00101_00110_00111_000000010 = .ok (.fsqrtr 5 2 6 7) ∧
    decode 0b00011101_00111_11111_00000_000000000 = .ok (.fisneg 7 31) ∧
    decode 0b00011110_00110_00001_00010_000000000 = .ok (.feq 6 1 2) ∧
    decode 0b00011111_00001_00010_00011_000000100 = .ok (.fsel 1 2 3 4) ∧
    decode 0b00100000_00001_00010_00000_000000111 = .ok (.fswap 1 2 7) ∧
    decode 0b00100001_00011_00100_00000_000000001 = .ok (.fcneg 3 4 1) := by decide

theorem test_decode_field_buffers :
    decode 0b00100100_11111_00011_00000_000000000 = .ok (.fsetb 31 3) ∧
    decode 0b00100101_00011_11111_00000_000000000 = .ok (.fgetb 3 31) ∧
    decode 0b00100110_00001_00010_00000_000000000 = .ok (.fldl 1 2) ∧
    decode 0b00100111_00010_00001_00000_000000000 = .ok (.fstl 2 1) := by decide

theorem test_decode_scalar :
    decode 0b00110000_00111_00110_00000_000000000 = .ok (.smov 7 6) ∧
    decode 0b00110001_00001_00010_00011_000000000 = .ok (.sadd 1 2 3) ∧
    decode 0b00110010_00100_00101_00110_000000000 = .ok (.ssub 4 5 6) ∧
    decode 0b00110011_00001_00111_00000_000000000 = .ok (.sneg 1 7) ∧
    decode 0b00110100_00010_00011_00100_000000000 = .ok (.smul 2 3 4) ∧
    decode 0b00110101_00101_00010_00000_000000000 = .ok (.sinv 5 2) ∧
    decode 0b00110110_00111_00001_00010_000000000 = .ok (.seq 7 1 2) ∧
    decode 0b00110111_00110_00011_00000_000000000 = .ok (.ssetc 6 3) ∧
    decode 0b00111000_00101_00010_00000_000000000 = .ok (.ssetu 5 2) ∧
    decode 0b00111001_00100_00001_00000_000000000 = .ok (.ssetcl 4 1) ∧
    decode 0b00111010_00011_00111_00000_000000000 = .ok (.sgetb 3 7) ∧
    decode 0b00111011_00010_00101_00000_000000000 = .ok (.srdx16 2 5) ∧
    decode 0b00111100_00000_00001_00000_000000101 = .ok (.snaf 0 1 5) ∧
    decode 0b00111100_00111_00110_00000_000001000 = .ok (.snaf 7 6 8) := by decide

theorem test_decode_coords :
    decode 0b01000000_00011_01111_00000_000000000 = .ok (.jfromp 3 15) ∧
    decode 0b01000001_00001_00010_00000_000000000 = .ok (.jfromc 1 2) ∧
    decode 0b01000010_01111_00011_00000_000000000 = .ok (.pfromc 15 3) ∧
    decode 0b01000011_00111_01110_00000_000000000 = .ok (.qfromp 7 14) ∧
    decode 0b01000100_00110_01101_00000_000000000 = .ok (.afromp 6 13) ∧
    decode 0b01000101_00001_01100_00101_000000000 = .ok (.cadd 1 12 5) ∧
    decode 0b01000110_00010_01011_00110_000000000 = .ok (.csub 2 11 6) ∧
    decode 0b01000111_00011_01010_00111_000000000 = .ok (.cadda 3 10 7) ∧
    decode 0b01001000_00000_01001_00100_000000000 = .ok (.csuba 0 9 4) ∧
    decode 0b01001001_00011_00001_00000_000000000 = .ok (.cdbl 3 1) := by decide

theorem test_decode_tables :
    decode 0b01010000_00111_01111_00000_000000000 = .ok (.ltbuild 7 15) ∧
    decode 0b01010001_00000_00000_00001_000111111 = .ok (.ltsel 0 0 1 63) ∧
    decode 0b01010001_00111_00110_00101_011111111 = .ok (.ltsel 7 6 5 255) ∧
    decode 0b01010010_00001_00010_00000_111111101 = .ok (.ltseli 1 2 (-3)) ∧
    decode 0b01010010_00001_00010_00000_000001000 = .ok (.ltseli 1 2 8) ∧
    decode 0b01010011_00001_01110_00000_000000000 = .ok (.atbuild 1 14) ∧
    decode 0b01010100_00110_00001_00100_010000000 = .ok (.atsel 6 1 4 128) ∧
    decode 0b01010101_00011_00001_00000_111111111 = .ok (.atseli 3 1 (-1)) ∧
    decode 0b01010110_00010_11111_00011_000111110 = .ok (.btsel 2 31 3 62) ∧
    decode 0b01010111_00111_11111_00000_111111000 = .ok (.btseli 7 31 (-8)) ∧
    decode 0b01011000_00100_00001_00000_000000000 = .ok (.ntbuild 4 1) ∧
    decode 0b01011001_00101_00011_00000_000001111 = .ok (.ntsel 5 3 15) ∧
    decode 0b01011010_00000_00000_00000_001111111 = .ok (.bnsel 0 127) := by decide

theorem test_decode_points :
    decode 0b01100000_01111_00000_00000_000000000 = .ok (.pident 15) ∧
    decode 0b01100001_01000_00000_00000_000000000 = .ok (.pgen 8) ∧
    decode 0b01100010_00100_00010_00000_000000000 = .ok (.pmov 4 2) ∧
    decode 0b01100011_00001_00000_00000_000000000 = .ok (.psetb 1 0) ∧
    decode 0b01100100_00011_01111_00000_000000000 = .ok (.pgetb 3 15) ∧
    decode 0b01100101_00010_01110_00000_000000000 = .ok (.pgetm 2 14) ∧
    decode 0b01100110_00001_00010_00011_000000000 = .ok (.padd 1 2 3) ∧
    decode 0b01100111_01111_01110_01101_000000000 = .ok (.psub 15 14 13) ∧
    decode 0b01101000_00101_01010_00000_000000000 = .ok (.pneg 5 10) ∧
    decode 0b01101001_00111_00001_01111_000000000 = .ok (.peq 7 1 15) ∧
    decode 0b01101010_00011_01001_00000_000000000 = .ok (.pmul8 3 9) ∧
    decode 0b01101011_00010_01000_00000_000000000 = .ok (.pmull 2 8) ∧
    decode 0b01101100_11100_01111_00000_000000000 = .ok (.pext 28 15) ∧
    decode 0b01101101_01111_11100_00000_000000000 = .ok (.psetext 15 28) ∧
    decode 0b01110000_00001_00111_01111_000000000 = .ok (.psmul 1 7 15) ∧
    decode 0b01110001_01111_00111_00000_000000000 = .ok (.pbmul 15 7) ∧
    decode 0b01110010_00010_00000_00001_000000001 = .ok (.pvdsbm 2 0 1 1) ∧
    decode 0b01110011_00000_00000_00001_000000011 = .ok (.pmsm 0 0 1 3) ∧
    decode 0b01110100_00111_00010_00110_000000101 = .ok (.pvmsm 7 2 6 5) := by decide

/-! ## Refused words (R97, R105), each by the check it fails -/

theorem test_refuse_opcode :
    decode 0x02000000 = .error .unassignedOpcode ∧ decode 0xFFFFFFFF = .error .unassignedOpcode ∧
    decode 0x75000000 = .error .unassignedOpcode := by decide

theorem test_refuse_register :
    decode 0x6CE80000 = .error .registerOutOfRange ∧ decode 0x31400000 = .error .registerOutOfRange ∧
    decode 0x04014000 = .error .registerOutOfRange ∧ decode 0x04004800 = .error .registerOutOfRange := by decide

theorem test_refuse_unused :
    decode 0x12184401 = .error .unusedFieldNotZero ∧ decode 0x00000001 = .error .unusedFieldNotZero := by decide

theorem test_refuse_immediate :
    decode 0x3C004006 = .error .illegalImmediate ∧ decode 0x52088009 = .error .illegalImmediate ∧
    decode 0x520881F7 = .error .illegalImmediate ∧ decode 0x73000009 = .error .illegalImmediate ∧
    decode 0x59000002 = .error .illegalImmediate ∧ decode 0x10000005 = .error .illegalImmediate ∧
    decode 0x04004003 = .error .illegalImmediate := by decide

theorem test_refuse_range :
    decode 0x73004008 = .error .rangeOffFile ∧ decode 0x73001208 = .error .rangeOffFile := by decide

theorem test_legal_edges :
    decode 0x73001008 = .ok (.pmsm 0 0 8 8) ∧ decode 0x73000000 = .ok (.pmsm 0 0 0 0) := by decide

theorem test_table_word :
    decodeTableWord 32 0x12184400 = some (.fadd 3 1 2) ∧ decodeTableWord 32 0x12184401 = none := by decide

/-! ## Single steps: the host writes one word to CMD; expected values are the spec's printed examples -/

/-- The step that performs a CMD write of `w` in `s`. -/
def run (w : Nat) (s : State) : Outcome := step (s.withFetchWord 32 w)

/-- A part of the next state, if there is one. -/
def got {α : Type} (o : Outcome) (f : State → α) : Option α :=
  match o with
  | .next t => some (f t)
  | _ => none

/-- The limb vector of a small value. -/
def lv (n : Nat) : Limbs := ⟨BitVec.ofNat 64 n, 0, 0, 0, 0⟩

/-- `limbs(p − 1)` (R142). -/
def pm1 : Limbs := ⟨0x7ffffffffffec, 0x7ffffffffffff, 0x7ffffffffffff, 0x7ffffffffffff, 0x7ffffffffffff⟩

/-- The integer p as limbs. -/
def pint : Limbs := ⟨0x7ffffffffffed, 0x7ffffffffffff, 0x7ffffffffffff, 0x7ffffffffffff, 0x7ffffffffffff⟩

/-- Buffer 0 holding `b`. -/
def io0 (b : List Byte) : State := ioWrite 0 b State.reset

/-- P1 is the generator (R261). -/
def gen1 : State := setP 1 genPoint State.reset

/-- The Y of the generator's 2B, the W of R267 and the Z of 2B in R240. -/
def w2B : Limbs := ⟨0x55b0bf61c8608, 0x7e636b3174e45, 0x3d9d6d142c9ef, 0x7517ece5c0b89, 0x59e4ea1a52a20⟩

/-- R310, R322. -/
theorem test_nop : got (run 0x00000000 State.reset) (fun t => (t.CMDCNT, t.LASTERR)) = some (1, 0) := by decide +kernel

/-- R311. -/
theorem test_kset : got (run 0x01380001 State.reset) (fun t => readWord 0x018 t) = some 0x80 := by decide +kernel

/-- R312. -/
theorem test_dgst :
    got (run 0x03080000 (setDG 0 [-8, 1] State.reset)) (fun t => (ioBytes 1 3 t, t.IOLEN[1])) = some ([0xF8, 0x01, 0], 64) := by decide +kernel

/-- R313. -/
theorem test_xget : got (run 0x0420C602 (setQ 3 (qFromP3 genPoint) gen1)) (fun t => t.F[4]) = some (lv 1) := by decide +kernel

/-- R313. -/
theorem test_xget_uninit :
    got (run 0x04380400 State.reset) (fun t => (t.LASTERR, t.ERRSTICKY, t.F[7])) = some (5, 0x20, .zero) := by decide +kernel

/-- R47: the printed limbs. -/
theorem test_fldc :
    got (run 0x10480004 State.reset) (fun t => t.F[9]) = some ⟨1718705420411056, 234908883556509, 2233514472574048, 2117202627021982, 765476049583133⟩ := by decide +kernel

/-- R141. -/
theorem test_fmov : got (run 0x11104000 (setF 1 (lv 1) State.reset)) (fun t => t.F[2]) = some (lv 1) := by decide +kernel

/-- R142. -/
theorem test_fadd :
    got (run 0x12184400 (setF 2 (lv 1) (setF 1 pm1 State.reset))) (fun t => t.F[3]) = some pint := by decide +kernel

/-- R143. -/
theorem test_fsub : got (run 0x13100200 (setF 1 (lv 1) State.reset)) (fun t => t.F[2]) = some pm1 := by decide +kernel

/-- R144. -/
theorem test_fneg : got (run 0x14104000 (setF 1 (lv 1) State.reset)) (fun t => t.F[2]) = some pm1 := by decide +kernel

/-- R145. -/
theorem test_fmul :
    got (run 0x15184400 (setF 2 feSqrtM1 (setF 1 feSqrtM1 State.reset))) (fun t => t.F[3]) = some pm1 := by decide +kernel

/-- R146. -/
theorem test_fsqr : got (run 0x16084000 (setF 1 (lv 3) State.reset)) (fun t => t.F[1]) = some (lv 9) := by decide +kernel

/-- R147. -/
theorem test_fmul32 :
    got (run 0x17104000 ({ setF 1 (lv 1) State.reset with ARG := 121666 })) (fun t => t.F[2]) = some (lv 0x1db42) := by decide +kernel

/-- R148. -/
theorem test_fcarry :
    got (run 0x18084000 (setF 1 (lv (2 ^ 51)) State.reset)) (fun t => t.F[1]) = some ⟨0, 1, 0, 0, 0⟩ := by decide +kernel

/-- R149. -/
theorem test_freduce : got (run 0x19104000 (setF 1 pint State.reset)) (fun t => t.F[2]) = some .zero := by decide +kernel

/-- V19, R150: (p + 1)/2. -/
theorem test_finv :
    got (run 0x1A104000 (setF 1 (lv 2) State.reset)) (fun t => t.F[2]) = some ⟨0x7fffffffffff7, 0x7ffffffffffff, 0x7ffffffffffff, 0x7ffffffffffff, 0x3ffffffffffff⟩ := by decide +kernel

/-- R151. -/
theorem test_fpow : got (run 0x1B084000 (setF 1 (lv 1) State.reset)) (fun t => t.F[1]) = some (lv 1) := by decide +kernel

/-- R152. -/
theorem test_fsqrtr :
    got (run 0x1C298E02 (setF 7 (lv 1) (setF 6 (lv 4) State.reset))) (fun t => (t.F[5], t.K[2])) = some ({ pint with l0 := 0x7ffffffffffef }, true) := by decide +kernel

/-- R153. -/
theorem test_fisneg : got (run 0x1D004000 (setF 1 (lv 1) State.reset)) (fun t => t.K[0]) = some true := by decide +kernel

/-- R154. -/
theorem test_feq : got (run 0x1E184000 (setF 1 pint State.reset)) (fun t => t.K[3]) = some true := by decide +kernel

/-- R155. -/
theorem test_fsel :
    got (run 0x1F088604 { setF 2 (lv 2) State.reset with K := State.reset.K.set 4 true }) (fun t => t.F[1]) = some (lv 2) := by decide +kernel

/-- R156. -/
theorem test_fswap :
    got (run 0x20088000 { setF 1 (lv 1) (setF 2 (lv 2) State.reset) with K := State.reset.K.set 0 true }) (fun t => (t.F[1], t.F[2])) = some (lv 2, lv 1) := by decide +kernel

/-- R157. -/
theorem test_fcneg :
    got (run 0x21104001 { setF 1 (lv 1) State.reset with K := State.reset.K.set 1 true }) (fun t => t.F[2]) = some pm1 := by decide +kernel

/-- R158. -/
theorem test_fsetb :
    got (run 0x24000000 (io0 (List.replicate 32 0xFF))) (fun t => t.F[0]) = some { pint with l0 := 0x7ffffffffffff } := by decide +kernel

/-- R158, R324. -/
theorem test_fsetb_length :
    got (run 0x24000000 (io0 [])) (fun t => (t.F[0], t.LASTERR)) = some (.zero, 1) := by decide +kernel

/-- R158: the encoding of 2^255 − 1. -/
theorem test_fgetb :
    got (run 0x25080000 (setF 0 { pint with l0 := 0x7ffffffffffff } State.reset)) (fun t => (ioBytes 1 3 t, t.IOLEN[1])) = some ([0x12, 0, 0], 32) := by decide +kernel

/-- R160. -/
theorem test_fldl :
    got (run 0x26080000 (io0 ([0, 0, 0, 0, 0, 0, 8, 0] ++ List.replicate 32 0))) (fun t => t.F[1]) = some (lv (2 ^ 51)) := by decide +kernel

/-- R161. -/
theorem test_fstl :
    got (run 0x27104000 (setF 1 (lv 1) State.reset)) (fun t => (ioBytes 2 2 t, t.IOLEN[2])) = some ([1, 0], 40) := by decide +kernel

/-- R178. -/
theorem test_smov : got (run 0x30004000 (setS 1 5 State.reset)) (fun t => t.S[0]) = some 5 := by decide +kernel

/-- R179. -/
theorem test_sadd :
    got (run 0x31004400 (setS 1 (ell - 1) (setS 2 2 State.reset))) (fun t => t.S[0]) = some 1 := by decide +kernel

/-- R180. -/
theorem test_ssub :
    got (run 0x32004400 (setS 2 1 State.reset)) (fun t => t.S[0]) = some 0x1000000000000000000000000000000014def9dea2f79cd65812631a5cf5d3ec := by decide +kernel

/-- R181. -/
theorem test_sneg :
    got (run 0x33004000 (setS 1 1 State.reset)) (fun t => t.S[0]) = some 0x1000000000000000000000000000000014def9dea2f79cd65812631a5cf5d3ec := by decide +kernel

/-- R182. -/
theorem test_smul : got (run 0x34004200 (setS 1 (ell - 1) State.reset)) (fun t => t.S[0]) = some 1 := by decide +kernel

/-- R183. -/
theorem test_sinv :
    got (run 0x35004000 (setS 1 2 State.reset)) (fun t => t.S[0]) = some 0x80000000000000000000000000000000a6f7cef517bce6b2c09318d2e7ae9f7 := by decide +kernel

/-- R184. -/
theorem test_seq : got (run 0x36000200 (setS 0 1 (setS 1 1 State.reset))) (fun t => t.K[0]) = some true := by decide +kernel

/-- R185. -/
theorem test_ssetc : got (run 0x37000000 (io0 (0x01 :: List.replicate 31 0))) (fun t => t.S[0]) = some 1 := by decide +kernel

/-- R185: ℓ is refused. -/
theorem test_ssetc_order :
    got (run 0x37000000 (io0 ([0xED, 0xD3, 0xF5, 0x5C, 0x1A, 0x63, 0x12, 0x58, 0xD6, 0x9C, 0xF7, 0xA2, 0xDE, 0xF9, 0xDE, 0x14] ++ List.replicate 15 0 ++ [0x10]))) (fun t => (t.S[0], t.LASTERR)) = some (0, 3) := by decide +kernel

/-- R186. -/
theorem test_ssetu :
    got (run 0x38000000 (io0 (List.replicate 64 0xFF))) (fun t => t.S[0]) = some 0x0399411b7c309a3dceec73d217f5be65d00e1ba768859347a40611e3449c0f00 := by decide +kernel

/-- R187. -/
theorem test_ssetcl :
    got (run 0x39000000 (io0 (List.replicate 32 0))) (fun t => t.S[0]) = some 0x0fffffffffffffffffffffffffffffffc16312641719297cf7c8d6b0e91e8439 := by decide +kernel

/-- R188. -/
theorem test_sgetb :
    got (run 0x3A080000 (setS 0 (ell - 1) State.reset)) (fun t => (ioBytes 1 4 t, t.IOLEN[1])) = some ([0xEC, 0xD3, 0xF5, 0x5C], 32) := by decide +kernel

/-- R189. -/
theorem test_srdx16 :
    got (run 0x3B000000 (setS 0 0xFF State.reset)) (fun t => (digits t 0).take 5) = some [-1, 0, 1, 0, 0] := by decide +kernel

/-- R190. -/
theorem test_snaf :
    got (run 0x3C004005 (setS 1 31 State.reset)) (fun t => (digits t 0).take 7) = some [-1, 0, 0, 0, 0, 1, 0] := by decide +kernel

/-- R215. -/
theorem test_jfromp :
    got (run 0x40000000 (setP 0 ptIdent State.reset)) (fun t => t.J[0]) = some ⟨true, .zero, lv 1, lv 1⟩ := by decide +kernel

/-- R203, by hand. -/
theorem test_jfromc :
    got (run 0x41080000 (setC 0 ⟨lv 2, lv 3, lv 5, lv 7⟩ State.reset)) (fun t => t.J[1]) = some ⟨true, lv 14, lv 15, lv 35⟩ := by decide +kernel

/-- R204, by hand. -/
theorem test_pfromc :
    got (run 0x42080000 (setC 0 ⟨lv 2, lv 3, lv 5, lv 7⟩ State.reset)) (fun t => t.P[1]) = some ⟨true, lv 14, lv 15, lv 35, lv 6⟩ := by decide +kernel

/-- R218. -/
theorem test_qfromp :
    got (run 0x43004000 gen1) (fun t => (t.Q[0].tag, t.Q[0].val.YpX, t.Q[0].val.T2d)) = some (true, ⟨0x493c6f58c3b85, 0x0df7181c325f7, 0x0f50b0b3e4cb7, 0x5329385a44c32, 0x07cf9d3a33d4b⟩, ⟨0x11205877aaa68, 0x479955893d579, 0x50d66309b67a0, 0x2d42d0dbee5ee, 0x6f117b689f0c6⟩) := by decide +kernel

/-- R219. -/
theorem test_afromp :
    got (run 0x44004000 gen1) (fun t => t.A[0].val) = some ⟨⟨0x493c6f58c3b85, 0x0df7181c325f7, 0x0f50b0b3e4cb7, 0x5329385a44c32, 0x07cf9d3a33d4b⟩, ⟨0x03905d740913e, 0x0ba2817d673a2, 0x23e2827f4e67c, 0x133d2e0c21a34, 0x44fd2f9298f81⟩, ⟨0x11205877aaa68, 0x479955893d579, 0x50d66309b67a0, 0x2d42d0dbee5ee, 0x6f117b689f0c6⟩⟩ := by decide +kernel

/-- R220. -/
theorem test_cadd :
    got (run 0x45004000 (setQ 0 (qFromP3 genPoint) gen1)) (fun t => let q := p3FromC t.C[0].val; (q.X, q.T)) = some (⟨0x5e6cf9f3fd67e, 0x102c74ed242a2, 0x4f06f677913e2, 0x56a2bbb68f090, 0x3b6f8891960f6⟩, ⟨0x2c7e392cad989, 0x00907a27378a6, 0x5781f05c9d254, 0x6d57e37537f6e, 0x1f6e08da2d298⟩) := by decide +kernel

/-- R221, R267. -/
theorem test_csub :
    got (run 0x46004000 (setQ 0 (qFromP3 genPoint) gen1)) (fun t => let q := p3FromC t.C[0].val; (q.X, q.Y, q.Z, q.T)) = some (pint, w2B, w2B, pint) := by decide +kernel

/-- R222. -/
theorem test_cadda :
    got (run 0x47004000 (setA 0 (aFromP3 genPoint) gen1)) (fun t => let q := p3FromC t.C[0].val; (q.X, q.T)) = some (⟨0x5e6cf9f3fd67e, 0x102c74ed242a2, 0x4f06f677913e2, 0x56a2bbb68f090, 0x3b6f8891960f6⟩, ⟨0x2c7e392cad989, 0x00907a27378a6, 0x5781f05c9d254, 0x6d57e37537f6e, 0x1f6e08da2d298⟩) := by decide +kernel

/-- R223, R267. -/
theorem test_csuba :
    got (run 0x48004000 (setA 0 (aFromP3 genPoint) gen1)) (fun t => let q := p3FromC t.C[0].val; (q.X, q.Y, q.Z, q.T)) = some (pint, w2B, w2B, pint) := by decide +kernel

/-- R224. -/
theorem test_cdbl :
    got (run 0x49000000 (setJ 0 ⟨.zero, lv 1, lv 1⟩ State.reset)) (fun t => t.C[0]) = some ⟨true, pint, lv 1, { pint with l0 := 0x7ffffffffffee }, { pint with l0 := 0x7ffffffffffee }⟩ := by decide +kernel

/-- R240. -/
theorem test_ltbuild :
    got (run 0x50004000 gen1) (fun t => (t.LT[0].tag, t.LT[0].val[1].Z, t.LT[0].val[7].T2d)) = some (true, w2B, ⟨0x3c92d89470500, 0x59769419eedb4, 0x0cb53b709b234, 0x12fa1c5e50ce3, 0x019502bc1e686⟩) := by decide +kernel

/-- R241. -/
theorem test_ltsel :
    got (run 0x5100023F (setLT 0 (ltBuild genPoint) State.reset)) (fun t => t.Q[0]) = some ⟨true, lv 1, lv 1, lv 1, .zero⟩ := by decide +kernel

/-- R331. -/
theorem test_ltsel_unbuilt :
    got (run 0x5100023F State.reset) (fun t => (t.LASTERR, t.ERRSTICKY, t.Q[0].tag)) = some (8, 0x100, false) := by decide +kernel

/-- R242: digit −1. -/
theorem test_ltseli :
    got (run 0x520001FF (setLT 0 (ltBuild genPoint) State.reset)) (fun t => (t.Q[0].val.YpX, t.Q[0].val.T2d)) = some (⟨0x03905d740913e, 0x0ba2817d673a2, 0x23e2827f4e67c, 0x133d2e0c21a34, 0x44fd2f9298f81⟩, ⟨0x6edfa78855585, 0x3866aa76c2a86, 0x2f299cf64985f, 0x52bd2f2411a11, 0x10ee849760f39⟩) := by decide +kernel

/-- R243. -/
theorem test_atbuild : got (run 0x53004000 gen1) (fun t => t.AT[0].val[1]) = some BPT[0][1] := by decide +kernel

/-- R244. -/
theorem test_atsel :
    got (run 0x5400003F (setAT 0 BPT[1] State.reset)) (fun t => t.A[0]) = some ⟨true, lv 1, lv 1, .zero⟩ := by decide +kernel

/-- R245. -/
theorem test_atseli :
    got (run 0x55000001 (setAT 0 BPT[0] State.reset)) (fun t => t.A[0].val) = some BPT[0][0] := by decide +kernel

/-- R246. -/
theorem test_btsel :
    got (run 0x56000000 (setDG 0 [1] State.reset)) (fun t => t.A[0]) = some ⟨true, BPT[0][0]⟩ := by decide +kernel

/-- R239, R333. -/
theorem test_btsel_digit :
    got (run 0x56000000 (setDG 0 [9] State.reset)) (fun t => (t.LASTERR, t.A[0].tag)) = some (10, false) := by decide +kernel

/-- R247. -/
theorem test_btseli :
    got (run 0x573FC1F8 State.reset) (fun t => (t.A[7].val.YpX, t.A[7].val.T2d)) = some (BPT[31][7].YmX, ⟨0x46f2fbd37bd87, 0x6101cd570238a, 0x16da11851edc7, 0x3506d7e2f17cd, 0x70106eee6e207⟩) := by decide +kernel

/-- R248. -/
theorem test_ntbuild :
    got (run 0x58004000 gen1) (fun t => (t.NT[0].tag, t.NT[0].val[1].Z)) = some (true, ⟨0x459d9fba69efe, 0x093aa464ebf37, 0x100b25633cf01, 0x215ca7060acd1, 0x0101f45083ace⟩) := by decide +kernel

/-- R249. -/
theorem test_ntsel :
    got (run 0x59000003 (setNT 0 (ntBuild genPoint) State.reset)) (fun t => t.Q[0].val.Z) = some ⟨0x459d9fba69efe, 0x093aa464ebf37, 0x100b25633cf01, 0x215ca7060acd1, 0x0101f45083ace⟩ := by decide +kernel

/-- R250, R238. -/
theorem test_bnsel :
    got (run 0x5A00007F State.reset) (fun t => t.A[0].val.YpX) = some ⟨0x66e3f94234b1c, 0x4d36843821f07, 0x711529721ed87, 0x03aa2a599d849, 0x2ba60fa9c3cdc⟩ := by decide +kernel

/-- R260. -/
theorem test_pident :
    got (run 0x60000000 State.reset) (fun t => t.P[0]) = some ⟨true, .zero, lv 1, lv 1, .zero⟩ := by decide +kernel

/-- R261. -/
theorem test_pgen :
    got (run 0x61080000 State.reset) (fun t => t.P[1].val.X) = some ⟨0x62d608f25d51a, 0x412a4b4f6592a, 0x75b7171a4b31d, 0x1ff60527118fe, 0x216936d3cd6e5⟩ := by decide +kernel

/-- R262. -/
theorem test_pmov : got (run 0x62004000 gen1) (fun t => t.P[0]) = some ⟨true, genPoint⟩ := by decide +kernel

/-- R263. -/
theorem test_psetb :
    got (run 0x63080000 (io0 [0x3B, 0xF9, 0x18, 0xFF, 0xC2, 0xC9, 0x55, 0xDC, 0x89, 0x5B, 0xF1, 0x45, 0xF5, 0x66, 0xFB, 0x96, 0x62, 0x3C, 0x1C, 0xAD, 0xBE, 0x04, 0x00, 0x91, 0x17, 0x57, 0x64, 0xB5, 0xFD, 0xE3, 0x22, 0xC0])) (fun t => (t.P[1].val.X, t.P[1].val.T)) = some (⟨0x169fe6d2bbe43, 0x4855f26fad86a, 0x03b9d91c6a49c, 0x69ee4102ff9a7, 0x4574252180cee⟩, ⟨0x4652875f57e42, 0x1404851962945, 0x63ec49da181c8, 0x2526617db5129, 0x4252d6ff2144f⟩) := by decide +kernel

/-- R263: y = 2. -/
theorem test_psetb_invalid :
    got (run 0x63080000 (io0 (2 :: List.replicate 31 0))) (fun t => (t.P[1].tag, t.LASTERR)) = some (false, 4) := by decide +kernel

/-- R264. -/
theorem test_pgetb :
    got (run 0x64004000 gen1) (fun t => (ioBytes 0 32 t, t.IOLEN[0])) = some (0x58 :: List.replicate 31 0x66, 32) := by decide +kernel

/-- R265. -/
theorem test_pgetm :
    got (run 0x65004000 gen1) (fun t => (ioBytes 0 32 t, t.IOLEN[0])) = some (9 :: List.replicate 31 0, 32) := by decide +kernel

/-- R266, R220. -/
theorem test_padd :
    got (run 0x66104200 gen1) (fun t => (t.P[2].val.X, t.P[2].val.T)) = some (⟨0x5e6cf9f3fd67e, 0x102c74ed242a2, 0x4f06f677913e2, 0x56a2bbb68f090, 0x3b6f8891960f6⟩, ⟨0x2c7e392cad989, 0x00907a27378a6, 0x5781f05c9d254, 0x6d57e37537f6e, 0x1f6e08da2d298⟩) := by decide +kernel

/-- R267. -/
theorem test_psub : got (run 0x67104200 gen1) (fun t => t.P[2]) = some ⟨true, pint, w2B, w2B, pint⟩ := by decide +kernel

/-- R268. -/
theorem test_pneg :
    got (run 0x68004000 gen1) (fun t => t.P[0].val.X) = some ⟨0x1d29f70da2ad3, 0x3ed5b4b09a6d5, 0x0a48e8e5b4ce2, 0x6009fad8ee701, 0x5e96c92c3291a⟩ := by decide +kernel

/-- R269. -/
theorem test_peq : got (run 0x69004000 (setP 0 ptIdent gen1)) (fun t => t.K[0]) = some false := by decide +kernel

/-- R270. -/
theorem test_pmul8 :
    got (run 0x6A004000 gen1) (fun t => ptBytes t.P[0].val) = some [0xB4, 0xB9, 0x37, 0xFC, 0xA9, 0x5B, 0x2F, 0x1E, 0x93, 0xE4, 0x1E, 0x62, 0xFC, 0x3C, 0x78, 0x81, 0x8F, 0xF3, 0x8A, 0x66, 0x09, 0x6F, 0xAD, 0x6E, 0x79, 0x73, 0xE5, 0xC9, 0x00, 0x06, 0xD3, 0x21] := by decide +kernel

/-- R271. -/
theorem test_pmull :
    got (run 0x6B004000 gen1) (fun t => t.P[0].val.Y) = some ⟨0x0ff77e7425348, 0x7a879f3bbd36d, 0x5300853a10e52, 0x0756a69ab3c39, 0x4fd595c97c133⟩ := by decide +kernel

/-- R272. -/
theorem test_pext :
    got (run 0x6CE04000 gen1) (fun t => (t.F[28], t.F[31])) = some (genPoint.X, genPoint.T) := by decide +kernel

/-- R273, R368: four zero vectors. -/
theorem test_psetext :
    got (run 0x6D000000 State.reset) (fun t => (t.P[0].tag, t.LASTERR)) = some (true, 0) := by decide +kernel

/-- R273: −1 = 0 fails. -/
theorem test_psetext_off :
    got (run 0x6D000000 (setF 0 (lv 1) State.reset)) (fun t => (t.P[0].tag, t.LASTERR)) = some (false, 4) := by decide +kernel

/-- R276. -/
theorem test_psmul :
    got (run 0x70000200 (setS 0 0x040c6ef8640d88bb673e62b6ac67734ebbea745c5dc9cb45599bf9ae09726adb gen1)) (fun t => t.P[0].val.X) = some ⟨0x2c44a81a2fdac, 0x5a55b77f019ef, 0x44f8482a421dc, 0x0a9500355a087, 0x7c46a19498f0d⟩ := by decide +kernel

/-- R277. -/
theorem test_pbmul :
    got (run 0x71000000 (setS 0 0x040c6ef8640d88bb673e62b6ac67734ebbea745c5dc9cb45599bf9ae09726adb gen1)) (fun t => t.P[0].val.X) = some ⟨0x735ace80c532c, 0x578ab03c5fddb, 0x4daf0dcc553be, 0x4fe32e0ab746b, 0x34fbb51856018⟩ := by decide +kernel

/-- R278. -/
theorem test_pvdsbm :
    got (run 0x72100201 (setS 0 1 (setS 1 1 gen1))) (fun t => t.P[2].val.X) = some ⟨0x66cf9f3fd6865, 0x02c74ed242a2b, 0x706f677913e22, 0x6a2bbb68f0909, 0x36f8891960f6a⟩ := by decide +kernel

/-- R279. -/
theorem test_pmsm :
    got (run 0x73000203 (setP 2 genPoint (setP 3 genPoint (setS 0 1 (setS 1 2 (setS 2 3 gen1)))))) (fun t => t.P[0].val.X) = some ⟨0x622f71810f0fa, 0x0ec534adb0ab2, 0x009e1dcaaed8b, 0x12c60e399a044, 0x1e2ddebf79a75⟩ := by decide +kernel

/-- R280: no pairs. -/
theorem test_pvmsm :
    got (run 0x74000000 State.reset) (fun t => t.P[0]) = some ⟨true, pint, { pint with l0 := 0x7ffffffffffee }, { pint with l0 := 0x7ffffffffffee }, pint⟩ := by decide +kernel

/-- R330. -/
theorem test_illegal_word :
    got (run 0x12184401 (setF 1 (lv 1) State.reset)) (fun t => (t.CMDCNT, t.LASTERR, t.ERRSTICKY, t.F[3])) = some (1, 7, 0x80, .zero) := by decide +kernel

/-! ## Witnesses: for each statement with hypotheses, a concrete case that meets them -/

theorem witness_DecodeEncode :
    (Instr.ltseli 7 7 (-8)).wellFormed = true ∧ (Instr.snaf 7 7 8).wellFormed = true ∧ (Instr.bnsel 7 127).wellFormed = true ∧
    (Instr.pmsm 15 7 15 1).wellFormed = true := by decide

theorem witness_OpcodeTable :
    decode 0x6CE3C000 = .ok (.pext 28 15) ∧ (∃ r ∈ opcodeRows, r.covers 0x6CE3C000 = true) := ⟨by decide, by decide +kernel⟩

theorem witness_StepRunsDecoded :
    (State.reset.withFetchWord 32 0x12184400).pending = .write 4 0x004 0x12184400 :: [] ∧
    decode 0x12184400 = .ok (.fadd 3 1 2) := by decide

theorem witness_StepIllegalWord :
    (State.reset.withFetchWord 32 0xFFFFFFFF).pending = .write 4 0x004 0xFFFFFFFF :: [] ∧
    decode 0xFFFFFFFF = .error .unassignedOpcode := by decide

/-- A state whose host performs `l`. -/
def host (l : List Access) : State := { State.reset with pending := l }

theorem witness_ReadHasNoEffect :
    (host [.read 4 0xFFC]).pending = .read 4 0xFFC :: [] ∧ 0xFFC < 0x1000 ∧ 0xFFC % 4 = 0 := by decide

theorem witness_AccessForms_idle_write :
    State.reset.pending = [] ∧ (host [.write 4 0xFFC 7]).pending = .write 4 0xFFC 7 :: [] ∧ 0xFFC < 0x1000 := by decide

theorem witness_AccessForms_outside_unsupported :
    (host [.read 4 0x1000]).pending = .read 4 0x1000 :: [] ∧ 0x1000 ≤ 0x1000 ∧
    (host [.write 2 0xFFE 7]).pending = .write 2 0xFFE 7 :: [] ∧ (2 : Nat) ≠ 4 ∧
    (host [.read 4 0xFFE]).pending = .read 4 0xFFE :: [] ∧ 0xFFE % 4 ≠ 0 := by decide

theorem witness_WindowReadMap :
    reservedOffset 0x020 = false ∧ reservedOffset 0x024 = true ∧ reservedOffset 0x0FC = true ∧ reservedOffset 0x100 = false ∧
    reservedOffset 0x140 = false ∧ reservedOffset 0x144 = true ∧ reservedOffset 0x17C = true ∧ reservedOffset 0x2C0 = false ∧
    reservedOffset 0x2C4 = true ∧ reservedOffset 0xFFC = true := by decide

theorem witness_WindowWriteMap : (0xFFFFFFFE : Word32).getLsbD 0 = false ∧ reservedOffset 0xFFC = true ∧ 0xFFC % 4 = 0 := by decide

theorem witness_BufferWord : (0 : Nat) < 16 ∧ 15 < 16 ∧ ioOffset 3 (4 * 15) = 0x2BC := by decide

theorem witness_ResetValues : (0x00000001 : Word32).getLsbD 0 = true ∧ (0xFFFFFFFF : Word32).getLsbD 0 = true := by decide

theorem witness_RaiseSemantics :
    got (command 0x00000000 State.reset) (·.LASTERR) = some 0 ∧ got (command 0xFFFFFFFF State.reset) (·.LASTERR) = some 7 := by
  decide +kernel

/-- Buffer 0 with a length only. -/
def len0 (n : Nat) : State := { State.reset with IOLEN := State.reset.IOLEN.set 0 (BitVec.ofNat 7 n) }

theorem witness_ErrorPriority :
    errorOf .nop State.reset = none ∧ errorOf (.bnsel 0 2) State.reset = some .illegalCommand ∧
    errorOf (.ltseli 0 0 8) State.reset = some .tableNotBuilt ∧ errorOf (.pmov 0 0) State.reset = some .uninitializedPoint ∧
    errorOf (.fsetb 0 0) State.reset = some .invalidFieldElementLength ∧ errorOf (.ssetc 0 0) State.reset = some .invalidScalarLength ∧
    errorOf (.fldl 0 0) (len0 32) = some .invalidLimbImageLength ∧ errorOf (.fldl 0 0) (len0 40) = none ∧
    errorOf (.btsel 0 0 0 0) (setDG 0 [9] State.reset) = some .illegalDigit ∧
    errorOf (.btsel 0 0 0 0) (setDG 0 [-8] State.reset) = none ∧
    errorOf (.ssetc 0 0) (io0 (List.replicate 32 0xFF)) = some .nonCanonicalScalar ∧
    errorOf (.psetb 0 0) (io0 (2 :: List.replicate 31 0)) = some .invalidPointEncoding := by decide +kernel

theorem witness_LengthMismatchNever :
    (∃ t, command 0 State.reset = .next t) ∧ (∃ t, step State.reset = .next t) ∧
    (readWord 0x010 State.reset).getLsbD 6 = false := ⟨⟨_, rfl⟩, ⟨_, rfl⟩, by decide⟩

theorem witness_CommandFrame : ∃ t, exec (.fadd 3 1 2) State.reset = .next t := ⟨_, rfl⟩

/-- A state in which a register of every tagged class is written. -/
def full : State :=
  setP 0 ptIdent (setJ 0 jIdent (setC 0 ⟨feZero, feOne, feOne, feOne⟩ (setQ 0 qIdent (setA 0 aIdent
    (setLT 0 (Vector.replicate 8 qIdent) (setAT 0 (Vector.replicate 8 aIdent) (setNT 0 (Vector.replicate 8 qIdent) State.reset)))))))

theorem witness_TagsSetOnly :
    (∃ t, command 0 full = .next t) ∧ (∃ t, step full = .next t) ∧
    got (exec (.pident 15) full) (·.LASTERR) = some 0 ∧ 15 ∈ (writes (.pident 15)).P ∧
    got (exec (.jfromp 3 0) full) (·.LASTERR) = some 0 ∧ 3 ∈ (writes (.jfromp 3 0)).J ∧
    got (exec (.cdbl 3 0) full) (·.LASTERR) = some 0 ∧ 3 ∈ (writes (.cdbl 3 0)).C ∧
    got (exec (.qfromp 7 0) full) (·.LASTERR) = some 0 ∧ 7 ∈ (writes (.qfromp 7 0)).Q ∧
    got (exec (.bnsel 7 1) full) (·.LASTERR) = some 0 ∧ 7 ∈ (writes (.bnsel 7 1)).A ∧
    got (exec (.ltbuild 7 0) full) (·.LASTERR) = some 0 ∧ 7 ∈ (writes (.ltbuild 7 0)).LT ∧
    got (exec (.atbuild 1 0) full) (·.LASTERR) = some 0 ∧ 1 ∈ (writes (.atbuild 1 0)).AT ∧
    got (exec (.ntbuild 7 0) full) (·.LASTERR) = some 0 ∧ 7 ∈ (writes (.ntbuild 7 0)).NT :=
  ⟨⟨_, rfl⟩, ⟨_, rfl⟩, by decide +kernel⟩

theorem sameTags_digit : SameTags State.reset (setDG 0 [9] State.reset) := by constructor <;> first | rfl | decide

theorem witness_ErrorsFromTags :
    SameTags State.reset (setDG 0 [9] State.reset) ∧
    got (exec (.btsel 0 0 0 0) State.reset) (·.LASTERR) = some 0 ∧
    got (exec (.btsel 0 0 0 0) (setDG 0 [9] State.reset)) (·.LASTERR) = some 10 := ⟨sameTags_digit, by decide +kernel, by decide +kernel⟩

theorem witness_ArgIsolation : (∀ d a, Instr.fadd 3 1 2 ≠ .fmul32 d a) ∧ ∃ t, exec (.fadd 3 1 2) State.reset = .next t :=
  ⟨nofun, _, rfl⟩

theorem witness_PredicateIsolation :
    (∀ d a b c, Instr.kset 7 true ≠ .fsel d a b c) ∧ (∀ a b c, Instr.kset 7 true ≠ .fswap a b c) ∧
    (∀ d a c, Instr.kset 7 true ≠ .fcneg d a c) ∧ ∃ t, exec (.kset 7 true) State.reset = .next t := ⟨nofun, nofun, nofun, _, rfl⟩

theorem witness_RecordIsolation : ∃ t, exec (.kset 7 true) State.reset = .next t := ⟨_, rfl⟩

theorem witness_StepKeepsInvariant :
    Inv (setS 0 (ell - 1) (host [.write 4 0x100 0x01000001])) ∧
    ∃ t, step (setS 0 (ell - 1) (host [.write 4 0x100 0x01000001])) = .next t :=
  ⟨⟨by decide +kernel, by decide +kernel, by decide +kernel, by decide +kernel⟩, _, rfl⟩

theorem witness_DomainClosed :
    BoundsInv (setF 0 ⟨0xFFFFFFFFFFFDA, 0xFFFFFFFFFFFFE, 0xFFFFFFFFFFFFE, 0xFFFFFFFFFFFFE, 0xFFFFFFFFFFFFE⟩ full) ∧
    (∀ d n, Instr.fldl 0 0 = .fldl d n → inDomain (limbsOfBytes (ioBytes n 40 full))) ∧
    ∃ t, exec (.fldl 0 0) full = .next t := by
  refine ⟨⟨?_, ?_, ?_, ?_, ?_, ?_, ?_, ?_, ?_⟩, ?_, _, rfl⟩
  all_goals decide +kernel

theorem ident_onCurve : ptIdent.onCurve := by simp [P3.onCurve, toField, val, ptIdent, feZero, feOne]

theorem zero_onCurve : (⟨.zero, .zero, .zero, .zero⟩ : P3).onCurve := by simp [P3.onCurve, toField, val, Limbs.zero]

theorem pointsInv_ident : PointsInv (setP 0 ptIdent State.reset) := by
  intro i h
  have hi : i = 0 := by revert i; decide
  subst hi
  exact ⟨by decide, ident_onCurve⟩

theorem witness_PointsStayOnCurve_group :
    PointsInv (setP 0 ptIdent State.reset) ∧ (∀ d a, Instr.padd 15 0 0 ≠ .pfromc d a) ∧
    (∀ d a, Instr.padd 15 0 0 = .psetext d a → (readQuad a (setP 0 ptIdent State.reset)).inDomain) ∧
    ∃ t, exec (.padd 15 0 0) (setP 0 ptIdent State.reset) = .next t := ⟨pointsInv_ident, nofun, nofun, _, rfl⟩

theorem witness_PointsStayOnCurve_psetext :
    PointsInv (setP 0 ptIdent State.reset) ∧ (∀ d a, Instr.psetext 15 28 ≠ .pfromc d a) ∧
    (∀ d a, Instr.psetext 15 28 = .psetext d a → (readQuad a (setP 0 ptIdent State.reset)).inDomain) ∧
    got (exec (.psetext 15 28) (setP 0 ptIdent State.reset)) (·.LASTERR) = some 0 := by
  refine ⟨pointsInv_ident, nofun, ?_, by decide +kernel⟩
  intro d a h
  cases h
  decide

theorem witness_SystemResults : full.P[0].tag = true ∧ full.J[0].tag = true ∧ full.C[0].tag = true ∧ full.Q[0].tag = true ∧
    full.A[0].tag = true := by decide

theorem witness_FieldDecoders : (len0 32).IOLEN[0] = 32 ∧ (len0 40).IOLEN[0] = 40 := by decide

theorem witness_BufferEncoders : full.P[0].tag = true ∧ (255 : Fin 256).val / 64 = (3 : Fin 4).val ∧
    (0 : Fin 256).val / 64 = (0 : Fin 4).val := by decide

/-- The largest `carryok` vector. -/
def maxCarry : Limbs := ⟨0xFFFFFFFFFFFFE000, 0xFFFFFFFFFFFFE000, 0xFFFFFFFFFFFFE000, 0xFFFFFFFFFFFFE000, 0xFFFFFFFFFFFFE000⟩

/-- The largest `loose` vector. -/
def maxLoose : Limbs := ⟨0xFFFFFFFFFFFFF, 0xFFFFFFFFFFFFF, 0xFFFFFFFFFFFFF, 0xFFFFFFFFFFFFF, 0xFFFFFFFFFFFFF⟩

/-- The largest vector of the domain. -/
def maxDomain : Limbs := ⟨0xFFFFFFFFFFFDA, 0xFFFFFFFFFFFFE, 0xFFFFFFFFFFFFE, 0xFFFFFFFFFFFFE, 0xFFFFFFFFFFFFE⟩

theorem witness_CarryExact : carryok maxCarry ∧ carryok .zero := by decide

theorem witness_AddSubExact : loose maxLoose ∧ subok maxDomain ∧ ¬ subok maxLoose := by decide

theorem witness_MulExact : loose maxLoose ∧ loose pint := by decide

theorem witness_Mul32Exact : loose maxLoose := by decide

theorem witness_ReduceCanonical : carryok maxCarry ∧ canonical pm1 ∧ ¬ canonical pint := by decide

theorem witness_FieldBytes :
    carryok maxCarry ∧ (List.replicate 32 (0xFF : Byte)).length = 32 ∧ (List.replicate 31 (0xFF : Byte) ++ [0x7F]).length = 32 ∧
    leNat ((0xEC : Byte) :: List.replicate 30 0xFF ++ [0x7F]) < fieldP ∧ ((0xEC : Byte) :: List.replicate 30 0xFF ++ [0x7F]).length = 32 := by
  decide +kernel

theorem witness_FieldCompare : carryok maxCarry ∧ carryok pint := by decide

theorem witness_ExponentChains : loose maxLoose ∧ loose .zero := by decide

theorem toField_pint : toField pint = 0 := by
  have h : val pint = fieldP := by decide
  simp [toField, h]

theorem toField_one_ne : toField (lv 1) ≠ 0 := by
  rw [toField, Ne, ZMod.natCast_eq_zero_iff]
  decide

/-- The bounds at their largest. -/
theorem witness_SqrtRatioSound_domain : loose maxDomain ∧ subok maxDomain ∧ loose maxLoose := by decide

/-- `v ≠ 0`: 4/1 is a square and 2/1 is not (R139's table). -/
theorem witness_SqrtRatioSound_root :
    loose (lv 4) ∧ subok (lv 4) ∧ loose (lv 2) ∧ subok (lv 2) ∧ loose (lv 1) ∧ toField (lv 1) ≠ 0 ∧
    (feSqrtRatio (lv 4) (lv 1)).2 = true ∧ (feSqrtRatio (lv 2) (lv 1)).2 = false ∧
    ∃ x : ZMod fieldP, x ^ 2 * toField (lv 1) = toField (lv 4) :=
  ⟨by decide, by decide, by decide, by decide, by decide, toField_one_ne, by decide +kernel, by decide +kernel, 2, by
    norm_num [toField, show val (lv 1) = 1 by decide, show val (lv 4) = 4 by decide]⟩

/-- `v = 0`, held as the integer p. -/
theorem witness_SqrtRatioSound_zero : toField pint = 0 ∧ loose pint := ⟨toField_pint, by decide⟩

theorem witness_ScalarDecoders :
    (io0 (bytesLE (ell - 1) 32)).IOLEN[0] = 32 ∧ leNat (ioBytes 0 32 (io0 (bytesLE (ell - 1) 32))) < ell ∧
    (io0 (List.replicate 64 0xFF)).IOLEN[0] = 64 := by decide +kernel

theorem witness_Radix16Recoding : (setS 0 (ell - 1) State.reset).S[0].toNat < ell ∧ (0 : Nat) < 63 ∧ 62 < 63 := by decide +kernel

theorem witness_NafRecoding :
    ((5 : Nat) = 5 ∨ (5 : Nat) = 8) ∧ ((8 : Nat) = 5 ∨ (8 : Nat) = 8) ∧ (setS 0 31 State.reset).S[0].toNat < ell ∧
    got (exec (.snaf 0 0 5) (setS 0 31 State.reset)) (fun t => ((digits t 0).getD 0 0, (digits t 0).getD 4 0)) = some (-1, 0) := by
  decide +kernel

theorem witness_CoordinateResults : full.P[0].tag = true ∧ full.C[0].tag = true ∧ full.Q[0].tag = true ∧ full.A[0].tag = true ∧
    full.J[0].tag = true := by decide

theorem witness_AdderDoublerTerms :
    (⟨maxDomain, maxDomain, maxDomain, maxDomain⟩ : P3).inDomain ∧ (⟨maxDomain, maxDomain, maxDomain, maxDomain⟩ : ProjCached).inDomain ∧
    (⟨maxDomain, maxDomain, maxDomain⟩ : AffineCached).inDomain ∧ (⟨maxDomain, maxDomain, maxDomain⟩ : P2).inDomain :=
  ⟨by decide, by decide, by decide, by decide⟩

theorem witness_TableBuilds : full.P[0].tag = true ∧ gen1.P[1].tag = true := by decide

theorem witness_TableSelects :
    full.LT[0].tag = true ∧ full.AT[0].tag = true ∧ full.NT[0].tag = true ∧ (-8 : Int) ≤ (setDG 0 [-8, 8] full).DG[0][0].toInt ∧
    (setDG 0 [-8, 8] full).DG[0][1].toInt ≤ 8 ∧ (-8 : Int) ≤ -8 ∧ (8 : Int) ≤ 8 := by decide +kernel

theorem witness_PointConstants : full.P[0].tag = true ∧ full.P[1].tag = false := by decide

/-- The generator's encoding (R264). -/
def genBytes : List Byte := 0x58 :: List.replicate 31 0x66

theorem witness_PointTransfers_psetb : (io0 genBytes).IOLEN[0] = 32 ∧ ptSetBytes (ioBytes 0 32 (io0 genBytes)) = some genPoint := by
  decide +kernel

theorem witness_PointTransfers_psetext :
    full.P[0].tag = true ∧ (readQuad 28 State.reset).inDomain ∧ (readQuad 28 State.reset).onCurve :=
  ⟨by decide, by decide, zero_onCurve⟩

theorem witness_PointGroup : (setP 1 genPoint full).P[0].tag = true ∧ (setP 1 genPoint full).P[1].tag = true := by decide

theorem witness_ScalarMultiplications :
    full.P[0].tag = true ∧ (0 : Fin 8).val + 1 ≤ 8 ∧ (0 : Fin 16).val + 1 ≤ 16 ∧
    (∀ k : Fin 1, (full.P[(0 : Fin 16).val + k.val]'(by omega)).tag = true) ∧ (7 : Fin 8).val + 0 ≤ 8 ∧ (15 : Fin 16).val + 0 ≤ 16 := by
  decide

theorem witness_PointPredicates :
    genPoint.inDomain ∧ ptIdent.inDomain ∧ ptOnCurve genPoint = true ∧ ptOnCurve ⟨lv 1, lv 1, lv 1, lv 1⟩ = false ∧
    ptEq genPoint ptIdent = false := ⟨by decide +kernel, by decide, by decide +kernel, by decide +kernel, by decide +kernel⟩

theorem gen_x_ne : toField genPoint.X ≠ 0 := by
  rw [toField, Ne, ZMod.natCast_eq_zero_iff]
  decide +kernel

theorem witness_PointDecoding :
    genBytes.length = 32 ∧ ptSetBytes genBytes = some genPoint ∧ toField genPoint.X ≠ 0 := ⟨by decide, by decide +kernel, gen_x_ne⟩

theorem witness_PointDecoding_roundTrip :
    ptIdent.inDomain ∧ ptIdent.onCurve ∧ (⟨.zero, .zero, .zero, .zero⟩ : P3).inDomain ∧ (⟨.zero, .zero, .zero, .zero⟩ : P3).onCurve :=
  ⟨by decide, ident_onCurve, by decide, zero_onCurve⟩

theorem witness_PointEncoding : genPoint.inDomain ∧ (⟨.zero, .zero, .zero, .zero⟩ : P3).inDomain :=
  ⟨by decide +kernel, by decide⟩

theorem witness_GroupLaws :
    ptIdent.inDomain ∧ ptIdent.onCurve ∧ (⟨.zero, .zero, .zero, .zero⟩ : P3).inDomain ∧ (⟨.zero, .zero, .zero, .zero⟩ : P3).onCurve :=
  ⟨by decide, ident_onCurve, by decide, zero_onCurve⟩

theorem witness_DegeneratePoint : ∀ k : Fin 4, State.reset.F[quadReg 28 k] = .zero := by decide

end Sys2Proof.Tests
end

/-! The frame of every command (O16; R14, R15, R50, R322): each register write keeps everything outside the destinations, each operand
form either goes on or raises an error, and so every arm of `exec` keeps everything outside `writes`. -/

namespace Sys2Proof.Proofs

open Sys2Proof.Machine Sys2Proof.Laws

/-- Every next state the outcome `o` of a command run in `s` can answer keeps what lies outside the destinations `w`. -/
def Frames (w : Writes) (s : State) (o : Outcome) : Prop := ∀ t, o = .next t → SameExcept w s t

section RegisterWrites

variable {w : Writes} {s t : State}

theorem sameExcept_refl (w : Writes) (s : State) : SameExcept w s s := by
  constructor <;> intros <;> rfl

/-- LASTERR and ERRSTICKY are outside the frame (R322). -/
theorem sameExcept_setErrors (h : SameExcept w s t) (c : BitVec 4) (e : Word32) :
    SameExcept w s { t with LASTERR := c, ERRSTICKY := e } := { h with }

/-- A write to register `d` of a file, one of the listed ones, leaves an unlisted register as it was. -/
theorem getElem_set_of_notMem {α : Type} {n : Nat} {v : Vector α n} {d i : Fin n} {l : List (Fin n)} (x : α) (hd : d ∈ l)
    (hi : i ∉ l) : (v.set d x)[i] = v[i] :=
  Vector.getElem_set_ne _ _ fun h => hi (Fin.ext h ▸ hd)

theorem sameExcept_setF {d : Fin 32} (v : Limbs) (hd : d ∈ w.F) (h : SameExcept w s t) : SameExcept w s (setF d v t) :=
  { h with F := fun i hi => (getElem_set_of_notMem v hd hi).trans (h.F i hi) }

theorem sameExcept_setS {d : Fin 8} (v : Nat) (hd : d ∈ w.S) (h : SameExcept w s t) : SameExcept w s (setS d v t) :=
  { h with S := fun i hi => (getElem_set_of_notMem _ hd hi).trans (h.S i hi) }

theorem sameExcept_setP {d : Fin 16} (v : P3) (hd : d ∈ w.P) (h : SameExcept w s t) : SameExcept w s (setP d v t) :=
  { h with P := fun i hi => (getElem_set_of_notMem _ hd hi).trans (h.P i hi) }

theorem sameExcept_setJ {d : Fin 4} (v : P2) (hd : d ∈ w.J) (h : SameExcept w s t) : SameExcept w s (setJ d v t) :=
  { h with J := fun i hi => (getElem_set_of_notMem _ hd hi).trans (h.J i hi) }

theorem sameExcept_setC {d : Fin 4} (v : P1xP1) (hd : d ∈ w.C) (h : SameExcept w s t) : SameExcept w s (setC d v t) :=
  { h with C := fun i hi => (getElem_set_of_notMem _ hd hi).trans (h.C i hi) }

theorem sameExcept_setQ {d : Fin 8} (v : ProjCached) (hd : d ∈ w.Q) (h : SameExcept w s t) : SameExcept w s (setQ d v t) :=
  { h with Q := fun i hi => (getElem_set_of_notMem _ hd hi).trans (h.Q i hi) }

theorem sameExcept_setA {d : Fin 8} (v : AffineCached) (hd : d ∈ w.A) (h : SameExcept w s t) : SameExcept w s (setA d v t) :=
  { h with A := fun i hi => (getElem_set_of_notMem _ hd hi).trans (h.A i hi) }

theorem sameExcept_setLT {d : Fin 8} (v : ProjTable) (hd : d ∈ w.LT) (h : SameExcept w s t) : SameExcept w s (setLT d v t) :=
  { h with LT := fun i hi => (getElem_set_of_notMem _ hd hi).trans (h.LT i hi) }

theorem sameExcept_setAT {d : Fin 2} (v : AffineTable) (hd : d ∈ w.AT) (h : SameExcept w s t) : SameExcept w s (setAT d v t) :=
  { h with AT := fun i hi => (getElem_set_of_notMem _ hd hi).trans (h.AT i hi) }

theorem sameExcept_setNT {d : Fin 8} (v : ProjTable) (hd : d ∈ w.NT) (h : SameExcept w s t) : SameExcept w s (setNT d v t) :=
  { h with NT := fun i hi => (getElem_set_of_notMem _ hd hi).trans (h.NT i hi) }

theorem sameExcept_setDG {d : Fin 8} (l : List Int) (hd : d ∈ w.DG) (h : SameExcept w s t) : SameExcept w s (setDG d l t) :=
  { h with DG := fun i hi => (getElem_set_of_notMem _ hd hi).trans (h.DG i hi) }

theorem sameExcept_setK {d : Fin 8} (b : Bool) (hd : d ∈ w.K) (h : SameExcept w s t) : SameExcept w s (setK d b t) :=
  { h with K := fun i hi => (getElem_set_of_notMem b hd hi).trans (h.K i hi) }

/-- `IOWrite` reaches only the 64 bytes and the length of its own buffer (R67). -/
theorem sameExcept_ioWrite {n : Fin 4} (b : List Byte) (hn : n ∈ w.IO) (h : SameExcept w s t) :
    SameExcept w s (ioWrite n b t) :=
  { h with
    IOLEN := fun i hi => (getElem_set_of_notMem _ hn hi).trans (h.IOLEN i hi)
    IO := fun a ha => by rw [read_ioWrite, if_neg fun hr => ha ⟨n, hn, hr⟩, h.IO a ha] }

/-- PEXT's four writes (R272). -/
theorem sameExcept_setQuad {d : Fin 29} (p : P3) (hd : ∀ k, quadReg d k ∈ w.F) (h : SameExcept w s t) :
    SameExcept w s (setQuad d p t) :=
  sameExcept_setF _ (hd 3) (sameExcept_setF _ (hd 2) (sameExcept_setF _ (hd 1) (sameExcept_setF _ (hd 0) h)))

end RegisterWrites

section Operands

variable {w : Writes} {s : State}

theorem frames_complete {u : State} (h : SameExcept w s u) : Frames w s (complete u) := by
  intro t ht
  rw [complete_eq.1 ht]
  exact sameExcept_setErrors h 0 u.ERRSTICKY

theorem frames_raise (e : CmdError) : Frames w s (raise e s) := by
  intro t ht
  rw [raise_eq.1 ht]
  exact sameExcept_setErrors (sameExcept_refl w s) _ _

theorem frames_withLegal {ok : Bool} {k : Outcome} (h : Frames w s k) : Frames w s (withLegal ok s k) := by
  intro t ht
  rcases withLegal_cases ht with ⟨-, hk⟩ | ⟨-, he⟩
  · exact h t hk
  · exact frames_raise _ t he

/-- Covers every tagged source: `withP`, `withJ`, `withC`, `withQ`, `withA`, `withLT`, `withAT` and `withNT` are this form. -/
theorem frames_withTagged {α : Type} {r : Tagged α} {e : CmdError} {k : α → Outcome} (h : ∀ v, Frames w s (k v)) :
    Frames w s (withTagged r e s k) := by
  intro t ht
  rcases withTagged_cases ht with ⟨-, hk⟩ | ⟨-, he⟩
  · exact h _ t hk
  · exact frames_raise _ t he

theorem frames_withBytes {n : Fin 4} {len : Nat} {e : CmdError} {k : List Byte → Outcome} (h : ∀ b, Frames w s (k b)) :
    Frames w s (withBytes n len e s k) := by
  intro t ht
  rcases withBytes_cases ht with ⟨-, hk⟩ | ⟨-, he⟩
  · exact h _ t hk
  · exact frames_raise _ t he

theorem frames_withDigit {b : Fin 8} {i : Fin 256} {k : Byte → Outcome} (h : ∀ x, Frames w s (k x)) :
    Frames w s (withDigit b i s k) := by
  intro t ht
  rcases withDigit_cases ht with ⟨-, hk⟩ | ⟨-, he⟩
  · exact h _ t hk
  · exact frames_raise _ t he

theorem frames_withImmDigit {x : Int} {k : Byte → Outcome} (h : ∀ x, Frames w s (k x)) : Frames w s (withImmDigit x s k) :=
  frames_withLegal (h _)

theorem frames_withSome {α : Type} {v : Option α} {e : CmdError} {k : α → Outcome} (h : ∀ x, Frames w s (k x)) :
    Frames w s (withSome v e s k) := by
  intro t ht
  rcases withSome_cases ht with ⟨x, -, hk⟩ | ⟨-, he⟩
  · exact h x t hk
  · exact frames_raise _ t he

theorem frames_withPairs {a : Fin 8} {b : Fin 16} {n : Nat} {k : List (Nat × P3) → Outcome} (h : ∀ sp, Frames w s (k sp)) :
    Frames w s (withPairs a b n s k) := by
  intro t ht
  rcases withPairs_cases ht with ⟨-, -, hk⟩ | ⟨-, -, he⟩ | ⟨-, he⟩
  · exact h _ t hk
  · exact frames_raise _ t he
  · exact frames_raise _ t he

/-- XGET's source is a tagged source of one of five files (R313). -/
theorem frames_withComponent {src : Component} {k : Limbs → Outcome} (h : ∀ v, Frames w s (k v)) :
    Frames w s (withComponent src s k) := by
  cases src <;> exact frames_withTagged fun _ => h _

end Operands

/-! A completed write of one register, the last step of nearly every command. -/

section OneDestination

variable {s : State}

theorem frames_complete_setF (d : Fin 32) (v : Limbs) : Frames { F := [d] } s (complete (setF d v s)) :=
  frames_complete (sameExcept_setF v (List.mem_singleton_self d) (sameExcept_refl _ s))

theorem frames_complete_setS (d : Fin 8) (v : Nat) : Frames { S := [d] } s (complete (setS d v s)) :=
  frames_complete (sameExcept_setS v (List.mem_singleton_self d) (sameExcept_refl _ s))

theorem frames_complete_setP (d : Fin 16) (v : P3) : Frames { P := [d] } s (complete (setP d v s)) :=
  frames_complete (sameExcept_setP v (List.mem_singleton_self d) (sameExcept_refl _ s))

theorem frames_complete_setJ (d : Fin 4) (v : P2) : Frames { J := [d] } s (complete (setJ d v s)) :=
  frames_complete (sameExcept_setJ v (List.mem_singleton_self d) (sameExcept_refl _ s))

theorem frames_complete_setC (d : Fin 4) (v : P1xP1) : Frames { C := [d] } s (complete (setC d v s)) :=
  frames_complete (sameExcept_setC v (List.mem_singleton_self d) (sameExcept_refl _ s))

theorem frames_complete_setQ (d : Fin 8) (v : ProjCached) : Frames { Q := [d] } s (complete (setQ d v s)) :=
  frames_complete (sameExcept_setQ v (List.mem_singleton_self d) (sameExcept_refl _ s))

theorem frames_complete_setA (d : Fin 8) (v : AffineCached) : Frames { A := [d] } s (complete (setA d v s)) :=
  frames_complete (sameExcept_setA v (List.mem_singleton_self d) (sameExcept_refl _ s))

theorem frames_complete_setLT (d : Fin 8) (v : ProjTable) : Frames { LT := [d] } s (complete (setLT d v s)) :=
  frames_complete (sameExcept_setLT v (List.mem_singleton_self d) (sameExcept_refl _ s))

theorem frames_complete_setAT (d : Fin 2) (v : AffineTable) : Frames { AT := [d] } s (complete (setAT d v s)) :=
  frames_complete (sameExcept_setAT v (List.mem_singleton_self d) (sameExcept_refl _ s))

theorem frames_complete_setNT (d : Fin 8) (v : ProjTable) : Frames { NT := [d] } s (complete (setNT d v s)) :=
  frames_complete (sameExcept_setNT v (List.mem_singleton_self d) (sameExcept_refl _ s))

theorem frames_complete_setDG (d : Fin 8) (l : List Int) : Frames { DG := [d] } s (complete (setDG d l s)) :=
  frames_complete (sameExcept_setDG l (List.mem_singleton_self d) (sameExcept_refl _ s))

theorem frames_complete_setK (d : Fin 8) (b : Bool) : Frames { K := [d] } s (complete (setK d b s)) :=
  frames_complete (sameExcept_setK b (List.mem_singleton_self d) (sameExcept_refl _ s))

theorem frames_complete_ioWrite (n : Fin 4) (b : List Byte) : Frames { IO := [n] } s (complete (ioWrite n b s)) :=
  frames_complete (sameExcept_ioWrite b (List.mem_singleton_self n) (sameExcept_refl _ s))

end OneDestination

theorem quadReg_mem_writes_pext (d : Fin 29) (a : Fin 16) (k : Fin 4) : quadReg d k ∈ (writes (.pext d a)).F := by
  fin_cases k <;> simp [writes]

/-- The commands, grouped by the file of their destination and the form of their sources. Each rule is unfolded once down to those
forms, so that the lemmas match them as written and the unifier never computes a command's result. -/
theorem exec_frames (i : Instr) (s : State) : Frames (writes i) s (exec i s) := by
  cases i with
    dsimp only [exec, writes, execNop, execKset, execDgst, execXget, execFldc, execFmov, execFadd, execFsub, execFneg, execFmul,
      execFsqr, execFmul32, execFcarry, execFreduce, execFinv, execFpow, execFsqrtr, execFisneg, execFeq, execFsel, execFswap,
      execFcneg, execFsetb, execFgetb, execFldl, execFstl, execSmov, execSadd, execSsub, execSneg, execSmul, execSinv, execSeq,
      execSsetc, execSsetu, execSsetcl, execSgetb, execSrdx16, execSnaf, execJfromp, execJfromc, execPfromc, execQfromp,
      execAfromp, execCadd, execCsub, execCadda, execCsuba, execCdbl, execLtbuild, execLtsel, execLtseli, execAtbuild,
      execAtsel, execAtseli, execBtsel, execBtseli, execNtbuild, execNtsel, execBnsel, execPident, execPgen, execPmov,
      execPsetb, execPgetb, execPgetm, execPadd, execPsub, execPneg, execPeq, execPmul8, execPmull, execPext, execPsetext,
      execPsmul, execPbmul, execPvdsbm, execPmsm, execPvmsm, withP, withJ, withC, withQ, withA, withLT, withAT, withNT]
  | nop => exact frames_complete (sameExcept_refl _ s)
  -- field registers
  | fldc | fmov | fadd | fsub | fneg | fmul | fsqr | fmul32 | fcarry | freduce | finv | fpow | fsel | fcneg =>
    exact frames_complete_setF _ _
  | fsetb | fldl => exact frames_withBytes fun _ => frames_complete_setF _ _
  | xget => exact frames_withComponent fun _ => frames_complete_setF _ _
  | fsqrtr =>
    exact frames_complete (sameExcept_setK _ (by simp) (sameExcept_setF _ (by simp) (sameExcept_refl _ s)))
  | fswap =>
    exact frames_complete (sameExcept_setF _ (by simp) (sameExcept_setF _ (by simp) (sameExcept_refl _ s)))
  | pext d a =>
    exact frames_withTagged fun p => frames_complete (sameExcept_setQuad p (quadReg_mem_writes_pext d a) (sameExcept_refl _ s))
  -- predicates
  | kset | fisneg | feq | seq => exact frames_complete_setK _ _
  | peq => exact frames_withTagged fun _ => frames_withTagged fun _ => frames_complete_setK _ _
  -- buffers
  | dgst | fgetb | fstl | sgetb => exact frames_complete_ioWrite _ _
  | pgetb | pgetm => exact frames_withTagged fun _ => frames_complete_ioWrite _ _
  -- scalars and digits
  | smov | sadd | ssub | sneg | smul | sinv => exact frames_complete_setS _ _
  | ssetc => exact frames_withBytes fun _ => frames_withSome fun _ => frames_complete_setS _ _
  | ssetu | ssetcl => exact frames_withBytes fun _ => frames_complete_setS _ _
  | srdx16 => exact frames_complete_setDG _ _
  | snaf => exact frames_withLegal (frames_complete_setDG _ _)
  -- P2, P1xP1 and the cached forms
  | jfromp | jfromc => exact frames_withTagged fun _ => frames_complete_setJ _ _
  | cadd | csub | cadda | csuba => exact frames_withTagged fun _ => frames_withTagged fun _ => frames_complete_setC _ _
  | cdbl => exact frames_withTagged fun _ => frames_complete_setC _ _
  | qfromp => exact frames_withTagged fun _ => frames_complete_setQ _ _
  | afromp => exact frames_withTagged fun _ => frames_complete_setA _ _
  -- tables and selections
  | ltbuild => exact frames_withTagged fun _ => frames_complete_setLT _ _
  | atbuild => exact frames_withTagged fun _ => frames_complete_setAT _ _
  | ntbuild => exact frames_withTagged fun _ => frames_complete_setNT _ _
  | ltsel => exact frames_withTagged fun _ => frames_withDigit fun _ => frames_complete_setQ _ _
  | ltseli => exact frames_withImmDigit fun _ => frames_withTagged fun _ => frames_complete_setQ _ _
  | ntsel => exact frames_withLegal (frames_withTagged fun _ => frames_complete_setQ _ _)
  | atsel => exact frames_withTagged fun _ => frames_withDigit fun _ => frames_complete_setA _ _
  | atseli => exact frames_withImmDigit fun _ => frames_withTagged fun _ => frames_complete_setA _ _
  | btsel => exact frames_withDigit fun _ => frames_complete_setA _ _
  | btseli => exact frames_withImmDigit fun _ => frames_complete_setA _ _
  | bnsel => exact frames_withLegal (frames_complete_setA _ _)
  -- points
  | pident | pgen | pbmul => exact frames_complete_setP _ _
  | pfromc | pmov | pneg | pmul8 | pmull | psmul | pvdsbm => exact frames_withTagged fun _ => frames_complete_setP _ _
  | padd | psub => exact frames_withTagged fun _ => frames_withTagged fun _ => frames_complete_setP _ _
  | psetb => exact frames_withBytes fun _ => frames_withSome fun _ => frames_complete_setP _ _
  | pmsm | pvmsm => exact frames_withPairs fun _ => frames_complete_setP _ _
  | psetext =>
    split
    · exact frames_complete_setP _ _
    · exact frames_raise _

/-- Settles O16: every arm of `exec` is a chain of operand forms that ends in a completed write of its own destinations, or in an
error that writes none. -/
theorem commandFrame : Obligations.CommandFrame := by
  unfold Obligations.CommandFrame
  exact exec_frames

end Sys2Proof.Proofs

/-! What a command can do, said once (R14, R322): it raises one error, or it completes a list of register and buffer writes. The
list does not depend on the error record, the counter or the host's port, on ARG but for FMUL32, nor on the predicates but for FSEL,
FSWAP and FCNEG. -/

namespace Sys2Proof.Proofs

open Sys2Proof.Machine Sys2Proof.Laws

/-- One write of a register or a buffer (R14). -/
inductive Update where
  | F (d : Fin 32) (v : Limbs)
  | S (d : Fin 8) (v : Nat)
  | P (d : Fin 16) (v : P3)
  | J (d : Fin 4) (v : P2)
  | C (d : Fin 4) (v : P1xP1)
  | Q (d : Fin 8) (v : ProjCached)
  | A (d : Fin 8) (v : AffineCached)
  | LT (d : Fin 8) (t : ProjTable)
  | AT (d : Fin 2) (t : AffineTable)
  | NT (d : Fin 8) (t : ProjTable)
  | DG (d : Fin 8) (l : List Int)
  | K (d : Fin 8) (b : Bool)
  | IO (n : Fin 4) (b : List Byte)

/-- The model's own operation for a write. -/
def Update.apply : Update → State → State
  | .F d v => setF d v
  | .S d v => setS d v
  | .P d v => setP d v
  | .J d v => setJ d v
  | .C d v => setC d v
  | .Q d v => setQ d v
  | .A d v => setA d v
  | .LT d t => setLT d t
  | .AT d t => setAT d t
  | .NT d t => setNT d t
  | .DG d l => setDG d l
  | .K d b => setK d b
  | .IO n b => ioWrite n b

/-- The destination of a write. -/
def Update.target : Update → Writes
  | .F d _ => { F := [d] }
  | .S d _ => { S := [d] }
  | .P d _ => { P := [d] }
  | .J d _ => { J := [d] }
  | .C d _ => { C := [d] }
  | .Q d _ => { Q := [d] }
  | .A d _ => { A := [d] }
  | .LT d _ => { LT := [d] }
  | .AT d _ => { AT := [d] }
  | .NT d _ => { NT := [d] }
  | .DG d _ => { DG := [d] }
  | .K d _ => { K := [d] }
  | .IO n _ => { IO := [n] }

/-- The writes made, the first of the list first. -/
def applyAll : List Update → State → State
  | [], s => s
  | u :: us, s => applyAll us (u.apply s)

/-- The destinations of two sets of writes. -/
def bothWrites (w w' : Writes) : Writes where
  F := w.F ++ w'.F
  S := w.S ++ w'.S
  P := w.P ++ w'.P
  J := w.J ++ w'.J
  C := w.C ++ w'.C
  Q := w.Q ++ w'.Q
  A := w.A ++ w'.A
  LT := w.LT ++ w'.LT
  AT := w.AT ++ w'.AT
  NT := w.NT ++ w'.NT
  DG := w.DG ++ w'.DG
  K := w.K ++ w'.K
  IO := w.IO ++ w'.IO

/-- The destinations of a list of writes. -/
def footprint : List Update → Writes
  | [] => {}
  | u :: us => bothWrites u.target (footprint us)

/-- How a command ends: with its one error, or with its writes (R322). -/
abbrev Ending := Except CmdError (List Update)

/-- The outcome an ending is in state `s`. -/
def finish (s : State) : Ending → Outcome
  | .error e => raise e s
  | .ok us => complete (applyAll us s)

/-- What every ending of `i` in `s` meets: code 6 is never raised (R329), the writes are to the destinations `w`, and a scalar
written is reduced or a copy of a register (R25). -/
def Ending.Legal (w : Writes) (s : State) : Ending → Prop
  | .error e => e ≠ .lengthMismatch
  | .ok us => footprint us = w ∧ ∀ d v, .S d v ∈ us → v < ell ∨ ∃ a, v = readS a s

/-- The outcomes `o` in `s` and `o'` in `s'` are one legal ending. -/
def SameEnding (w : Writes) (s s' : State) (o o' : Outcome) : Prop :=
  ∃ r : Ending, o = finish s r ∧ o' = finish s' r ∧ r.Legal w s

section Endings

variable {w : Writes} {s s' : State}

theorem sameEnding_raise {e : CmdError} (he : e ≠ .lengthMismatch) : SameEnding w s s' (raise e s) (raise e s') :=
  ⟨.error e, rfl, rfl, he⟩

theorem sameEnding_complete (us : List Update) (hw : footprint us = w)
    (hS : ∀ d v, .S d v ∈ us → v < ell ∨ ∃ a, v = readS a s) :
    SameEnding w s s' (complete (applyAll us s)) (complete (applyAll us s')) :=
  ⟨.ok us, rfl, rfl, hw, hS⟩

/-- A completed command that writes one register or buffer, none of the scalars. -/
theorem sameEnding_one (u : Update) (hS : ∀ d v, u ≠ .S d v) :
    SameEnding u.target s s' (complete (u.apply s)) (complete (u.apply s')) :=
  sameEnding_complete [u] (by cases u <;> rfl) fun d v h => absurd (List.mem_singleton.1 h).symm (hS d v)

theorem sameEnding_setS (d : Fin 8) {v : Nat} (hv : v < ell ∨ ∃ a, v = readS a s) :
    SameEnding { S := [d] } s s' (complete (setS d v s)) (complete (setS d v s')) :=
  sameEnding_complete [.S d v] rfl fun d' v' h => by
    cases List.mem_singleton.1 h
    exact hv

/-- A check both states decide alike. -/
theorem sameEnding_ite (c : Prop) [Decidable c] {e : CmdError} (he : e ≠ .lengthMismatch) {k k' : Outcome}
    (h : SameEnding w s s' k k') : SameEnding w s s' (if c then k else raise e s) (if c then k' else raise e s') := by
  by_cases hc : c
  · simpa only [if_pos hc] using h
  · simpa only [if_neg hc] using sameEnding_raise he

theorem sameEnding_withLegal {ok : Bool} {k k' : Outcome} (h : SameEnding w s s' k k') :
    SameEnding w s s' (withLegal ok s k) (withLegal ok s' k') :=
  sameEnding_ite (ok = true) (by decide) h

theorem sameEnding_withTagged {α : Type} (r : Tagged α) {e : CmdError} (he : e ≠ .lengthMismatch) {k k' : α → Outcome}
    (h : ∀ v, SameEnding w s s' (k v) (k' v)) : SameEnding w s s' (withTagged r e s k) (withTagged r e s' k') :=
  sameEnding_ite (r.tag = true) he (h _)

theorem sameEnding_withSome {α : Type} (v : Option α) {e : CmdError} (he : e ≠ .lengthMismatch) {k k' : α → Outcome}
    (h : ∀ x, v = some x → SameEnding w s s' (k x) (k' x)) : SameEnding w s s' (withSome v e s k) (withSome v e s' k') := by
  cases v with
  | none => exact sameEnding_raise he
  | some x => exact h x rfl

end Endings

/-- Values for the fields that are no source of most commands: the predicates, ARG, LASTERR, CMDCNT and the host's port. -/
structure Aside where
  K : Vector Bool 8
  ARG : Word32
  LASTERR : BitVec 4
  CMDCNT : Word32
  pending : List Access
  answer : Option Word32

/-- `s` with those fields replaced. -/
def Aside.on (h : Aside) (s : State) : State :=
  { s with K := h.K, ARG := h.ARG, LASTERR := h.LASTERR, CMDCNT := h.CMDCNT, pending := h.pending, answer := h.answer }

section Sources

variable (h : Aside) (s : State)

@[simp] theorem on_F : (h.on s).F = s.F := rfl
@[simp] theorem on_S : (h.on s).S = s.S := rfl
@[simp] theorem on_P : (h.on s).P = s.P := rfl
@[simp] theorem on_J : (h.on s).J = s.J := rfl
@[simp] theorem on_C : (h.on s).C = s.C := rfl
@[simp] theorem on_Q : (h.on s).Q = s.Q := rfl
@[simp] theorem on_A : (h.on s).A = s.A := rfl
@[simp] theorem on_LT : (h.on s).LT = s.LT := rfl
@[simp] theorem on_AT : (h.on s).AT = s.AT := rfl
@[simp] theorem on_NT : (h.on s).NT = s.NT := rfl
@[simp] theorem on_DG : (h.on s).DG = s.DG := rfl
@[simp] theorem on_K : (h.on s).K = h.K := rfl
@[simp] theorem on_ARG : (h.on s).ARG = h.ARG := rfl
@[simp] theorem readS_on (a : Fin 8) : readS a (h.on s) = readS a s := rfl
@[simp] theorem readQuad_on (a : Fin 29) : readQuad a (h.on s) = readQuad a s := rfl

variable {h s} {w : Writes}

theorem sameEnding_withBytes (n : Fin 4) (len : Nat) {e : CmdError} (he : e ≠ .lengthMismatch) {k k' : List Byte → Outcome}
    (hk : ∀ b, SameEnding w s (h.on s) (k b) (k' b)) :
    SameEnding w s (h.on s) (withBytes n len e s k) (withBytes n len e (h.on s) k') :=
  sameEnding_ite (s.IOLEN[n].toNat = len) he (hk (ioBytes n len s))

theorem sameEnding_withDigit (b : Fin 8) (i : Fin 256) {k k' : Byte → Outcome}
    (hk : ∀ x, SameEnding w s (h.on s) (k x) (k' x)) :
    SameEnding w s (h.on s) (withDigit b i s k) (withDigit b i (h.on s) k') :=
  sameEnding_ite (digitLegal s.DG[b][i] = true) (by decide) (hk s.DG[b][i])

theorem sameEnding_withPairs (a : Fin 8) (b : Fin 16) (n : Nat) {k k' : List (Nat × P3) → Outcome}
    (hk : ∀ sp, SameEnding w s (h.on s) (k sp) (k' sp)) :
    SameEnding w s (h.on s) (withPairs a b n s k) (withPairs a b n (h.on s) k') :=
  sameEnding_withLegal (sameEnding_ite _ (by decide) (hk ((pairSources a b n s).map fun x => (x.1.toNat, x.2.val))))

theorem sameEnding_withComponent (src : Component) {k k' : Limbs → Outcome}
    (hk : ∀ v, SameEnding w s (h.on s) (k v) (k' v)) :
    SameEnding w s (h.on s) (withComponent src s k) (withComponent src (h.on s) k') := by
  cases src <;> exact sameEnding_withTagged _ (by decide) fun _ => hk _

end Sources

/-! The scalars the scalar unit computes are reduced (R171 to R174). -/

theorem ell_pos : 0 < ell := by decide

theorem scReduce_lt (n : Nat) : scReduce n < ell := Nat.mod_lt _ ell_pos

/-- The least non-negative residue of an integer. -/
theorem emod_ell_lt (x : Int) : (x % (ell : Int)).toNat < ell := by
  have h0 : (0 : Int) < ell := Int.natCast_pos.2 ell_pos
  exact (Int.toNat_lt (Int.emod_nonneg x h0.ne')).2 (Int.emod_lt_of_pos x h0)

theorem scPow_lt (s : Nat) : ∀ n e, scPow s e n < ell
  | 0, _ => (by decide : 1 < ell)
  | n + 1, e => by
    unfold scPow
    dsimp only
    split <;> exact scReduce_lt _

theorem scSetCanonical_lt {b : List Byte} {v : Nat} (h : scSetCanonical b = some v) : v < ell := by
  unfold scSetCanonical at h
  split at h
  · cases h
  · cases h
    omega

/-- `i` reads no predicate: it is not FSEL, FSWAP or FCNEG (R37). -/
def ReadsNoPredicate (i : Instr) : Prop :=
  (∀ d a b c, i ≠ .fsel d a b c) ∧ (∀ a b c, i ≠ .fswap a b c) ∧ ∀ d a c, i ≠ .fcneg d a c

/-- What a command does: in `s`, and alike in `s` with other values in the fields it does not read. The commands are grouped by the
file of their destination and the form of their sources. -/
theorem exec_sameEnding (i : Instr) (s : State) (h : Aside) (hK : ReadsNoPredicate i ∨ h.K = s.K)
    (hARG : (∀ d a, i ≠ .fmul32 d a) ∨ h.ARG = s.ARG) : SameEnding (writes i) s (h.on s) (exec i s) (exec i (h.on s)) := by
  cases i with
    dsimp only [exec, writes, execNop, execKset, execDgst, execXget, execFldc, execFmov, execFadd, execFsub, execFneg, execFmul,
      execFsqr, execFmul32, execFcarry, execFreduce, execFinv, execFpow, execFsqrtr, execFisneg, execFeq, execFsel, execFswap,
      execFcneg, execFsetb, execFgetb, execFldl, execFstl, execSmov, execSadd, execSsub, execSneg, execSmul, execSinv, execSeq,
      execSsetc, execSsetu, execSsetcl, execSgetb, execSrdx16, execSnaf, execJfromp, execJfromc, execPfromc, execQfromp,
      execAfromp, execCadd, execCsub, execCadda, execCsuba, execCdbl, execLtbuild, execLtsel, execLtseli, execAtbuild,
      execAtsel, execAtseli, execBtsel, execBtseli, execNtbuild, execNtsel, execBnsel, execPident, execPgen, execPmov,
      execPsetb, execPgetb, execPgetm, execPadd, execPsub, execPneg, execPeq, execPmul8, execPmull, execPext, execPsetext,
      execPsmul, execPbmul, execPvdsbm, execPmsm, execPvmsm, withP, withJ, withC, withQ, withA, withLT, withAT, withNT,
      withImmDigit, on_F, on_S, on_P, on_J, on_C, on_Q, on_A, on_LT, on_AT, on_NT, on_DG, on_K, on_ARG, readS_on, readQuad_on]
  | nop => exact sameEnding_complete [] rfl (by simp)
  -- field registers
  | fldc | fmov | fadd | fsub | fneg | fmul | fsqr | fcarry | freduce | finv | fpow => exact sameEnding_one (.F _ _) nofun
  | fmul32 d a =>
    rw [hARG.resolve_left fun hn => hn d a rfl]
    exact sameEnding_one (.F _ _) nofun
  | fsel d a b c =>
    rw [hK.resolve_left fun hn => hn.1 d a b c rfl]
    exact sameEnding_one (.F _ _) nofun
  | fcneg d a c =>
    rw [hK.resolve_left fun hn => hn.2.2 d a c rfl]
    exact sameEnding_one (.F _ _) nofun
  | fswap a b c =>
    rw [hK.resolve_left fun hn => hn.2.1 a b c rfl]
    exact sameEnding_complete [.F a _, .F b _] rfl (by simp)
  | fsetb | fldl => exact sameEnding_withBytes _ _ (by decide) fun _ => sameEnding_one (.F _ _) nofun
  | xget => exact sameEnding_withComponent _ fun _ => sameEnding_one (.F _ _) nofun
  | fsqrtr d k => exact sameEnding_complete [.F d _, .K k _] rfl (by simp)
  | pext d =>
    exact sameEnding_withTagged _ (by decide) fun _ =>
      sameEnding_complete [.F (quadReg d 0) _, .F (quadReg d 1) _, .F (quadReg d 2) _, .F (quadReg d 3) _] rfl (by simp)
  -- predicates
  | kset | fisneg | feq | seq => exact sameEnding_one (.K _ _) nofun
  | peq =>
    exact sameEnding_withTagged _ (by decide) fun _ => sameEnding_withTagged _ (by decide) fun _ => sameEnding_one (.K _ _) nofun
  -- buffers
  | dgst | fgetb | fstl | sgetb => exact sameEnding_one (.IO _ _) nofun
  | pgetb | pgetm => exact sameEnding_withTagged _ (by decide) fun _ => sameEnding_one (.IO _ _) nofun
  -- scalars and digits
  | smov d a => exact sameEnding_setS d (.inr ⟨a, rfl⟩)
  | sadd | smul => exact sameEnding_setS _ (.inl (scReduce_lt _))
  | ssub | sneg => exact sameEnding_setS _ (.inl (emod_ell_lt _))
  | sinv => exact sameEnding_setS _ (.inl (scPow_lt _ _ _))
  | ssetc =>
    exact sameEnding_withBytes _ _ (by decide) fun _ => sameEnding_withSome _ (by decide) fun _ hv =>
      sameEnding_setS _ (.inl (scSetCanonical_lt hv))
  | ssetu | ssetcl => exact sameEnding_withBytes _ _ (by decide) fun _ => sameEnding_setS _ (.inl (scReduce_lt _))
  | srdx16 => exact sameEnding_one (.DG _ _) nofun
  | snaf => exact sameEnding_withLegal (sameEnding_one (.DG _ _) nofun)
  -- P2, P1xP1 and the cached forms
  | jfromp | jfromc => exact sameEnding_withTagged _ (by decide) fun _ => sameEnding_one (.J _ _) nofun
  | cadd | csub | cadda | csuba =>
    exact sameEnding_withTagged _ (by decide) fun _ => sameEnding_withTagged _ (by decide) fun _ => sameEnding_one (.C _ _) nofun
  | cdbl => exact sameEnding_withTagged _ (by decide) fun _ => sameEnding_one (.C _ _) nofun
  | qfromp => exact sameEnding_withTagged _ (by decide) fun _ => sameEnding_one (.Q _ _) nofun
  | afromp => exact sameEnding_withTagged _ (by decide) fun _ => sameEnding_one (.A _ _) nofun
  -- tables and selections
  | ltbuild => exact sameEnding_withTagged _ (by decide) fun _ => sameEnding_one (.LT _ _) nofun
  | atbuild => exact sameEnding_withTagged _ (by decide) fun _ => sameEnding_one (.AT _ _) nofun
  | ntbuild => exact sameEnding_withTagged _ (by decide) fun _ => sameEnding_one (.NT _ _) nofun
  | ltsel =>
    exact sameEnding_withTagged _ (by decide) fun _ => sameEnding_withDigit _ _ fun _ => sameEnding_one (.Q _ _) nofun
  | ltseli => exact sameEnding_withLegal (sameEnding_withTagged _ (by decide) fun _ => sameEnding_one (.Q _ _) nofun)
  | ntsel => exact sameEnding_withLegal (sameEnding_withTagged _ (by decide) fun _ => sameEnding_one (.Q _ _) nofun)
  | atsel =>
    exact sameEnding_withTagged _ (by decide) fun _ => sameEnding_withDigit _ _ fun _ => sameEnding_one (.A _ _) nofun
  | atseli => exact sameEnding_withLegal (sameEnding_withTagged _ (by decide) fun _ => sameEnding_one (.A _ _) nofun)
  | btsel => exact sameEnding_withDigit _ _ fun _ => sameEnding_one (.A _ _) nofun
  | btseli | bnsel => exact sameEnding_withLegal (sameEnding_one (.A _ _) nofun)
  -- points
  | pident | pgen | pbmul => exact sameEnding_one (.P _ _) nofun
  | pfromc | pmov | pneg | pmul8 | pmull | psmul | pvdsbm =>
    exact sameEnding_withTagged _ (by decide) fun _ => sameEnding_one (.P _ _) nofun
  | padd | psub =>
    exact sameEnding_withTagged _ (by decide) fun _ => sameEnding_withTagged _ (by decide) fun _ => sameEnding_one (.P _ _) nofun
  | psetb =>
    exact sameEnding_withBytes _ _ (by decide) fun _ => sameEnding_withSome _ (by decide) fun _ _ => sameEnding_one (.P _ _) nofun
  | pmsm | pvmsm => exact sameEnding_withPairs _ _ _ fun _ => sameEnding_one (.P _ _) nofun
  | psetext =>
    exact sameEnding_ite _ (by decide) (sameEnding_one (.P _ _) nofun)

end Sys2Proof.Proofs

/-! What holds of every command, read off its ending: it completes and is counted (O12), it keeps and sets tags (O17), and it does
not see the fields it does not read (O19, O20, O21). -/

namespace Sys2Proof.Proofs

open Sys2Proof.Machine Sys2Proof.Laws

/-- A command's ending in `s`. -/
theorem exec_ending (i : Instr) (s : State) : ∃ r : Ending, exec i s = finish s r ∧ r.Legal (writes i) s := by
  obtain ⟨r, hr, -, hl⟩ := exec_sameEnding i s ⟨s.K, s.ARG, s.LASTERR, s.CMDCNT, s.pending, s.answer⟩ (.inr rfl) (.inr rfl)
  exact ⟨r, hr, hl⟩

/-- Everything a command can do, as cases: raise an error other than code 6, or complete its writes. -/
theorem exec_cases {i : Instr} {s t : State} (h : exec i s = .next t) :
    (∃ e, e ≠ .lengthMismatch ∧
        t = { s with LASTERR := errorCode e, ERRSTICKY := s.ERRSTICKY ||| stickyBit (errorCode e) }) ∨
      ∃ us, footprint us = writes i ∧ (∀ d v, .S d v ∈ us → v < ell ∨ ∃ a, v = readS a s) ∧
        t = { applyAll us s with LASTERR := 0 } := by
  obtain ⟨r, hr, hl⟩ := exec_ending i s
  rw [hr] at h
  cases r with
  | error e => exact .inl ⟨e, hl, raise_eq.1 h⟩
  | ok us => exact .inr ⟨us, hl.1, hl.2, complete_eq.1 h⟩

/-- A fact each single write keeps is kept by a list of writes. -/
theorem applyAll_induction {p : State → Prop} (hstep : ∀ u s, p s → p (Update.apply u s)) :
    ∀ (us : List Update) (s : State), p s → p (applyAll us s)
  | [], _, h => h
  | u :: us, s, h => applyAll_induction hstep us _ (hstep u s h)

/-! ## Completion and the count (R44, R320) -/

theorem applyAll_CMDCNT (us : List Update) (s : State) : (applyAll us s).CMDCNT = s.CMDCNT :=
  applyAll_induction (p := fun t => t.CMDCNT = s.CMDCNT) (fun u t ht => by cases u <;> exact ht) us s rfl

theorem exec_completes (i : Instr) (s : State) : ∃ t, exec i s = .next t ∧ t.CMDCNT = s.CMDCNT := by
  obtain ⟨r, hr, -⟩ := exec_ending i s
  cases r with
  | error e => exact ⟨_, hr, rfl⟩
  | ok us => exact ⟨_, hr, applyAll_CMDCNT us s⟩

/-- Settles O12: a legal word runs a command, which completes without touching the count; an illegal one raises IllegalCommand. -/
theorem commandsComplete : Obligations.CommandsComplete := by
  unfold Obligations.CommandsComplete
  intro w s
  unfold command
  cases decode w with
  | ok i => exact exec_completes i _
  | error _ => exact ⟨_, rfl, rfl⟩

/-! ## Tags (R30, R367) -/

theorem tagsKept_refl (s : State) : TagsKept s s := by
  constructor <;> exact fun _ h => h

theorem tagsKept_trans {s t u : State} (h : TagsKept s t) (h' : TagsKept t u) : TagsKept s u where
  P i hi := h'.P i (h.P i hi)
  J i hi := h'.J i (h.J i hi)
  C i hi := h'.C i (h.C i hi)
  Q i hi := h'.Q i (h.Q i hi)
  A i hi := h'.A i (h.A i hi)
  LT i hi := h'.LT i (h.LT i hi)
  AT i hi := h'.AT i (h.AT i hi)
  NT i hi := h'.NT i (h.NT i hi)

/-- A write to a tagged file keeps every tag of the file. -/
theorem tag_set {α : Type} {n : Nat} {v : Vector (Tagged α) n} (d : Fin n) (x : α) (i : Fin n) (h : v[i].tag = true) :
    (v.set d ⟨true, x⟩)[i].tag = true := by
  by_cases hd : d = i
  · subst hd
    simp
  · rwa [Fin.getElem_fin, Vector.getElem_set_ne _ _ fun hv => hd (Fin.ext hv)]

theorem tagsKept_apply (u : Update) (s : State) : TagsKept s (u.apply s) := by
  cases u with
  | F | S | DG | K | IO => exact { tagsKept_refl s with }
  | P d v => exact { tagsKept_refl s with P := tag_set d v }
  | J d v => exact { tagsKept_refl s with J := tag_set d v }
  | C d v => exact { tagsKept_refl s with C := tag_set d v }
  | Q d v => exact { tagsKept_refl s with Q := tag_set d v }
  | A d v => exact { tagsKept_refl s with A := tag_set d v }
  | LT d v => exact { tagsKept_refl s with LT := tag_set d v }
  | AT d v => exact { tagsKept_refl s with AT := tag_set d v }
  | NT d v => exact { tagsKept_refl s with NT := tag_set d v }

theorem tagsKept_applyAll (us : List Update) (s : State) : TagsKept s (applyAll us s) :=
  applyAll_induction (fun u _ h => tagsKept_trans h (tagsKept_apply u _)) us s (tagsKept_refl s)

theorem exec_tagsKept {i : Instr} {s t : State} (h : exec i s = .next t) : TagsKept s t := by
  obtain ⟨e, -, rfl⟩ | ⟨us, -, -, rfl⟩ := exec_cases h
  · exact { tagsKept_refl s with }
  · exact { tagsKept_applyAll us s with }

theorem command_tagsKept {w : Word32} {s t : State} (h : command w s = .next t) : TagsKept s t := by
  unfold command at h
  cases hd : decode w with
  | ok i =>
    rw [hd] at h
    exact { exec_tagsKept h with }
  | error e =>
    rw [hd] at h
    rw [raise_eq.1 h]
    exact { tagsKept_refl s with }

/-- Every destination of `w` in a tagged file has its tag in `t`. -/
structure TagsOf (w : Writes) (t : State) : Prop where
  P : ∀ d ∈ w.P, t.P[d].tag = true
  J : ∀ d ∈ w.J, t.J[d].tag = true
  C : ∀ d ∈ w.C, t.C[d].tag = true
  Q : ∀ d ∈ w.Q, t.Q[d].tag = true
  A : ∀ d ∈ w.A, t.A[d].tag = true
  LT : ∀ d ∈ w.LT, t.LT[d].tag = true
  AT : ∀ d ∈ w.AT, t.AT[d].tag = true
  NT : ∀ d ∈ w.NT, t.NT[d].tag = true

theorem TagsOf.kept {w : Writes} {s t : State} (h : TagsOf w s) (hk : TagsKept s t) : TagsOf w t where
  P d hd := hk.P d (h.P d hd)
  J d hd := hk.J d (h.J d hd)
  C d hd := hk.C d (h.C d hd)
  Q d hd := hk.Q d (h.Q d hd)
  A d hd := hk.A d (h.A d hd)
  LT d hd := hk.LT d (h.LT d hd)
  AT d hd := hk.AT d (h.AT d hd)
  NT d hd := hk.NT d (h.NT d hd)

theorem TagsOf.both {w w' : Writes} {t : State} (h : TagsOf w t) (h' : TagsOf w' t) : TagsOf (bothWrites w w') t where
  P d hd := (List.mem_append.1 hd).elim (h.P d) (h'.P d)
  J d hd := (List.mem_append.1 hd).elim (h.J d) (h'.J d)
  C d hd := (List.mem_append.1 hd).elim (h.C d) (h'.C d)
  Q d hd := (List.mem_append.1 hd).elim (h.Q d) (h'.Q d)
  A d hd := (List.mem_append.1 hd).elim (h.A d) (h'.A d)
  LT d hd := (List.mem_append.1 hd).elim (h.LT d) (h'.LT d)
  AT d hd := (List.mem_append.1 hd).elim (h.AT d) (h'.AT d)
  NT d hd := (List.mem_append.1 hd).elim (h.NT d) (h'.NT d)

theorem tagsOf_target (u : Update) (s : State) : TagsOf u.target (u.apply s) := by
  cases u <;> constructor <;> simp [Update.target, Update.apply]

theorem tagsOf_footprint : ∀ (us : List Update) (s : State), TagsOf (footprint us) (applyAll us s)
  | [], _ => by constructor <;> nofun
  | u :: us, s => ((tagsOf_target u s).kept (tagsKept_applyAll us _)).both (tagsOf_footprint us _)

theorem exec_tagsOf {i : Instr} {s t : State} (h : exec i s = .next t) (h0 : t.LASTERR = 0) : TagsOf (writes i) t := by
  obtain ⟨e, -, rfl⟩ | ⟨us, hw, -, rfl⟩ := exec_cases h
  · exact absurd h0 (errorCode_ne_zero e)
  · rw [← hw]
    exact { tagsOf_footprint us s with }

/-! ## What no command sees (R36, R37, R44, R45) -/

/-- A change of the state that no write sees passes through a list of writes. -/
theorem applyAll_comm {g : State → State} (hg : ∀ u s, Update.apply u (g s) = g (u.apply s)) :
    ∀ (us : List Update) (s : State), applyAll us (g s) = g (applyAll us s)
  | [], _ => rfl
  | u :: us, s => by rw [applyAll, applyAll, hg, applyAll_comm hg]

/-- Settles O19: with another ARG the ending is the same, and no write is to ARG. -/
theorem argIsolation : Obligations.ArgIsolation := by
  unfold Obligations.ArgIsolation
  intro i s t v hi ht
  obtain ⟨r, hr, hr', -⟩ := exec_sameEnding i s ⟨s.K, v, s.LASTERR, s.CMDCNT, s.pending, s.answer⟩ (.inr rfl) (.inl hi)
  rw [hr] at ht
  refine hr'.trans ?_
  cases r with
  | error e =>
    rw [raise_eq.1 ht]
    rfl
  | ok us =>
    rw [complete_eq.1 ht]
    exact congrArg complete (applyAll_comm (g := fun s => { s with ARG := v }) (fun u _ => by cases u <;> rfl) us s)

/-- Settles O21: with another port, count and last error the ending is the same, and of these fields a command writes only
LASTERR. -/
theorem recordIsolation : Obligations.RecordIsolation := by
  unfold Obligations.RecordIsolation
  intro i s t l a c e ht
  obtain ⟨r, hr, hr', -⟩ := exec_sameEnding i s ⟨s.K, s.ARG, e, c, l, a⟩ (.inr rfl) (.inr rfl)
  rw [hr] at ht
  refine hr'.trans ?_
  cases r with
  | error e =>
    rw [raise_eq.1 ht]
    rfl
  | ok us =>
    rw [complete_eq.1 ht]
    exact congrArg complete
      (applyAll_comm (g := fun s => { s with pending := l, answer := a, CMDCNT := c, LASTERR := e })
        (fun u _ => by cases u <;> rfl) us s)

/-- `s` with one predicate changed. -/
def withPred (k : Fin 8) (b : Bool) (s : State) : State := { s with K := s.K.set k b }

/-- A write to the changed predicate makes the change unseen; any other write lets it through. -/
theorem apply_withPred (k : Fin 8) (b : Bool) (u : Update) (s : State) :
    u.apply (withPred k b s) = if k ∈ u.target.K then u.apply s else withPred k b (u.apply s) := by
  cases u with
  | K d v =>
    by_cases hk : k = d
    · subst hk
      simp [Update.target, Update.apply, withPred, setK]
    · have hne : k.val ≠ d.val := fun h => hk (Fin.ext h)
      simp only [Update.target, Update.apply, withPred, setK, List.mem_singleton, if_neg hk, Vector.set_comm _ _ hne]
  | _ => rfl

theorem applyAll_withPred (k : Fin 8) (b : Bool) : ∀ (us : List Update) (s : State),
    applyAll us (withPred k b s) = if k ∈ (footprint us).K then applyAll us s else withPred k b (applyAll us s)
  | [], _ => rfl
  | u :: us, s => by
    simp only [applyAll, footprint, bothWrites, apply_withPred, List.mem_append]
    by_cases hu : k ∈ u.target.K
    · simp only [hu, true_or, if_true]
    · simp only [hu, false_or, if_false, applyAll_withPred k b us]

/-- Settles O20: with one predicate changed the ending is the same; the change stays unless the command writes that predicate. -/
theorem predicateIsolation : Obligations.PredicateIsolation := by
  unfold Obligations.PredicateIsolation
  intro i s t k b hsel hswap hcneg ht
  obtain ⟨r, hr, hr', hl⟩ := exec_sameEnding i s ⟨s.K.set k b, s.ARG, s.LASTERR, s.CMDCNT, s.pending, s.answer⟩
    (.inl ⟨hsel, hswap, hcneg⟩) (.inr rfl)
  rw [hr] at ht
  refine hr'.trans ?_
  cases r with
  | error e =>
    rw [raise_eq.1 ht, if_neg fun h => errorCode_ne_zero e h.2]
    rfl
  | ok us =>
    rw [complete_eq.1 ht, ← hl.1]
    refine (congrArg complete (applyAll_withPred k b us s)).trans ?_
    by_cases hk : k ∈ (footprint us).K
    · rw [if_pos hk, if_pos ⟨hk, rfl⟩]
      rfl
    · rw [if_neg hk, if_neg fun h => hk h.1]
      rfl

end Sys2Proof.Proofs

/-! The window offset by offset (O8, O9), one step as cases (O4, O7), and what every step keeps (O17, O22, O23). -/

namespace Sys2Proof.Proofs

open Sys2Proof.Machine Sys2Proof.Laws

/-! ## Offsets (R61 to R63) -/

/-- A reserved offset is none of a register, a buffer byte or a buffer length. -/
theorem reserved_cases {off : Nat} (h4 : off % 4 = 0) (h : reservedOffset off = true) :
    0x024 ≤ off ∧ isIoData off = false ∧ iolenIndex off = none := by
  have hoff : 0x024 ≤ off ∧ ¬ (0x100 ≤ off ∧ off < 0x300 ∧ (off - 0x100) % 0x80 < 0x40) ∧ off ≠ 0x140 ∧ off ≠ 0x1C0 ∧
      off ≠ 0x240 ∧ off ≠ 0x2C0 := by
    simp only [reservedOffset, Bool.or_eq_true, Bool.and_eq_true, decide_eq_true_eq] at h
    omega
  obtain ⟨hlow, hio, h0, h1, h2, h3⟩ := hoff
  refine ⟨hlow, ?_, by simp only [iolenIndex, h0, h1, h2, h3, if_false]⟩
  rw [Bool.eq_false_iff]
  simpa [isIoData, and_assoc] using hio

theorem isIoData_le {off : Nat} (h : isIoData off = true) : 0x100 ≤ off := by
  simp only [isIoData, Bool.and_eq_true, decide_eq_true_eq] at h
  exact h.1.1

/-- The registers lie below 0x024 (R61). -/
theorem register_ne {off : Nat} (h : 0x024 ≤ off) : off ≠ 0x000 ∧ off ≠ 0x004 ∧ off ≠ 0x008 ∧ off ≠ 0x00C ∧ off ≠ 0x010 ∧
    off ≠ 0x014 ∧ off ≠ 0x018 ∧ off ≠ 0x01C ∧ off ≠ 0x020 := by
  omega

theorem readWord_ioData {off : Nat} (h : isIoData off = true) (s : State) : readWord off s = ioWord off s := by
  have hne := register_ne (Nat.le_trans (by decide) (isIoData_le h))
  simp [readWord, h, hne]

theorem readWord_reserved {off : Nat} (h4 : off % 4 = 0) (h : reservedOffset off = true) (s : State) : readWord off s = 0 := by
  obtain ⟨hlow, hio, hlen⟩ := reserved_cases h4 h
  simp [readWord, hio, hlen, register_ne hlow]

theorem writeWord_reserved {off : Nat} (h4 : off % 4 = 0) (h : reservedOffset off = true) (v : Word32) (s : State) :
    writeWord off v s = .next s := by
  obtain ⟨hlow, hio, hlen⟩ := reserved_cases h4 h
  simp [writeWord, hio, hlen, register_ne hlow]

theorem readWord_iolen (n : Fin 4) (s : State) : readWord (0x140 + 0x80 * n.val) s = s.IOLEN[n].setWidth 32 := by
  fin_cases n <;> rfl

theorem writeWord_iolen (n : Fin 4) (v : Word32) (s : State) :
    writeWord (0x140 + 0x80 * n.val) v s = .next { s with IOLEN := s.IOLEN.set n (v.extractLsb' 0 7) } := by
  have hv : v.extractLsb' 0 7 = v.setWidth 7 := by
    ext i hi
    simp
  rw [hv]
  fin_cases n <;> rfl

/-- Byte `j` of a buffer word is the byte at the `j`-th offset above the word's (R64). -/
theorem ioWord_byte (off : Nat) (s : State) {j : Nat} (hj : j < 4) :
    (ioWord off s).extractLsb' (8 * j) 8 = s.IO.read (off + j) := by
  unfold ioWord
  refine BitVec.eq_of_getLsbD_eq fun i hi => ?_
  rw [BitVec.getLsbD_extractLsb']
  interval_cases j <;> simp only [BitVec.getLsbD_append] <;> grind

/-- A predicate's bit of KREG (R44). -/
theorem kregBit_getLsbD (s : State) (j : Fin 8) (i : Nat) : (kregBit s j).getLsbD i = (decide (i = j.val) && s.K[j]) := by
  unfold kregBit
  have hj := j.isLt
  split
  · next hk =>
    rw [hk, BitVec.getLsbD_shiftLeft, show (1 : Word32) = 1#32 from rfl, BitVec.getLsbD_one, Bool.and_true, Bool.eq_iff_iff]
    simp only [Bool.and_eq_true, decide_eq_true_eq, Bool.not_eq_true', decide_eq_false_iff_not]
    omega
  · next hk => simp [hk]

theorem kregWord_getLsbD_fin (s : State) (i : Fin 8) : (kregWord s).getLsbD i = s.K[i] := by
  simp only [kregWord, BitVec.getLsbD_or, kregBit_getLsbD]
  fin_cases i <;> simp

theorem kregWord_getLsbD_high (s : State) {i : Nat} (hi : 8 ≤ i) : (kregWord s).getLsbD i = false := by
  have hne : ∀ j : Fin 8, decide (i = j.val) = false := fun j => decide_eq_false (by omega)
  simp only [kregWord, BitVec.getLsbD_or, kregBit_getLsbD, hne, Bool.false_and, Bool.or_false]

/-- The live bits of ERRSTICKY are 1 to 10 (R43). -/
theorem stickyMask_getLsbD : ∀ i < 32, stickyMask.getLsbD i = decide (1 ≤ i ∧ i ≤ 10) := by decide

theorem isIoData_word (n : Fin 4) {k : Nat} (hk : k < 16) : isIoData (0x100 + 0x80 * n.val + 4 * k) = true := by
  simp only [isIoData, Bool.and_eq_true, decide_eq_true_eq]
  omega

/-- Settles O8: each class of offsets by its own rule above; the registers below 0x024 read as the definition says. -/
theorem windowReadMap : Obligations.WindowReadMap := by
  unfold Obligations.WindowReadMap
  intro s
  refine ⟨rfl, rfl, rfl, fun i hi => ?lastErr, fun i hi => ?sticky, rfl, kregWord_getLsbD_fin s,
    fun i hi => kregWord_getLsbD_high s hi, rfl, rfl, fun n k j hk hj => ?data, fun n => ?length,
    fun off h4 h => readWord_reserved h4 h s⟩
  case lastErr =>
    change (s.LASTERR.setWidth 32).getLsbD i = _
    simp [hi]
  case sticky =>
    change (s.ERRSTICKY &&& stickyMask).getLsbD i = _
    rw [BitVec.getLsbD_and, stickyMask_getLsbD i hi, Bool.and_comm]
  case data =>
    rw [readWord_ioData (isIoData_word n hk), ioWord_byte _ s hj]
    simp only [ioOffset, Nat.add_assoc]
  case length =>
    rw [readWord_iolen, BitVec.toNat_setWidth]
    omega

/-- Settles O9: each class of offsets by its own rule above. -/
theorem windowWriteMap : Obligations.WindowWriteMap := by
  unfold Obligations.WindowWriteMap
  intro s v
  refine ⟨rfl, rfl, rfl, fun h => ?ctrl, fun n => writeWord_iolen n v s, fun off hoff => ?readOnly,
    fun off h4 h => writeWord_reserved h4 h v s⟩
  case ctrl =>
    change Host.Outcome.next (if v.getLsbD 0 then resetBlock s else s) = _
    rw [h]
    rfl
  case readOnly =>
    simp only [List.mem_cons, List.not_mem_nil, or_false] at hoff
    rcases hoff with rfl | rfl | rfl | rfl | rfl <;> rfl

/-! ## One access and one step, as cases -/

theorem step_of_pending {s : State} {a : Access} {rest : List Access} (h : s.pending = a :: rest) :
    step s = access a (takeAccess rest s) := by
  unfold step
  rw [h]

theorem access_write {off : Nat} (hoff : off < 0x1000) (h4 : off % 4 = 0) (v : Word32) (s : State) :
    access (.write 4 off v) s = writeWord off v s := by
  have hw : ¬ off ≥ Config.windowSize := Nat.not_le.2 hoff
  simp [access, hw, accepted, h4]

/-- An access at an offset outside the window (R60). -/
theorem access_outside {a : Access} {bytes off : Nat} {v : Word32} (ha : a = .read bytes off ∨ a = .write bytes off v)
    (hoff : 0x1000 ≤ off) (s : State) : access a s = .fault .outsideWindow := by
  have hw : off ≥ Config.windowSize := hoff
  rcases ha with rfl | rfl <;> simp [access, hw]

/-- An access of another width or alignment (R65). -/
theorem access_unsupported {a : Access} {bytes off : Nat} {v : Word32} (ha : a = .read bytes off ∨ a = .write bytes off v)
    (hoff : off < 0x1000) (h : bytes ≠ 4 ∨ off % 4 ≠ 0) (s : State) : access a s = .refused .unsupportedAccess := by
  have hw : ¬ off ≥ Config.windowSize := Nat.not_le.2 hoff
  have hacc : accepted bytes off = false := by
    rw [accepted, Bool.and_eq_false_iff]
    simpa using h
  rcases ha with rfl | rfl <;> simp [access, hw, hacc]

/-- Settles O7: the idle step by definition, every other form by the rule of its access. -/
theorem accessForms : Obligations.AccessForms := by
  unfold Obligations.AccessForms
  refine ⟨fun s h => ?idle, fun s off v rest h hoff h4 => ?write, fun s bytes off v rest h hoff => ?outside,
    fun s bytes off v rest h hoff hbad => ?unsupported⟩
  case idle =>
    unfold step
    rw [h]
  case write =>
    rw [step_of_pending h, access_write hoff h4]
    rfl
  case outside =>
    rcases h with h | h
    · rw [step_of_pending h, access_outside (v := v) (.inl rfl) hoff]
    · rw [step_of_pending h, access_outside (.inr rfl) hoff]
  case unsupported =>
    rcases h with h | h
    · rw [step_of_pending h, access_unsupported (v := v) (.inl rfl) hoff hbad]
    · rw [step_of_pending h, access_unsupported (.inr rfl) hoff hbad]

/-- Settles O4: the write reaches `command`, which runs what the word decodes to. -/
theorem stepRunsDecoded : Obligations.StepRunsDecoded := by
  unfold Obligations.StepRunsDecoded
  refine ⟨fun s w rest i h hd => ?_, fun s w => ?_⟩
  · rw [step_of_pending h, access_write (by decide) (by decide)]
    change command w (takeAccess rest s) = _
    unfold command
    rw [hd]
    rfl
  · unfold State.withFetchWord
    rw [Nat.mod_eq_of_lt w.isLt, BitVec.ofNat_toNat, BitVec.setWidth_eq]

/-- Everything a window write can do. -/
theorem writeWord_cases {off : Nat} {v : Word32} {s t : State} (h : writeWord off v s = .next t) :
    command v s = .next t ∨ t = clearSticky v s ∨ t = { s with ARG := v } ∨ t = resetBlock s ∨ t = s ∨
      (isIoData off = true ∧ t = { s with IO := s.IO.writeBytes off (wordBytes v) }) ∨
      ∃ n : Fin 4, t = { s with IOLEN := s.IOLEN.set n (v.setWidth 7) } := by
  unfold writeWord at h
  split at h
  · exact .inl h
  split at h
  · cases h
    simp
  split at h
  · cases h
    simp
  split at h
  · cases h
    cases v.getLsbD 0 <;> simp
  split at h
  · next hio =>
    cases h
    simp [hio]
  split at h
  · next n _ =>
    cases h
    exact .inr (.inr (.inr (.inr (.inr (.inr ⟨n, rfl⟩)))))
  · cases h
    simp

/-- Everything an accepted access can do: return a word, perform an aligned write, or reset. -/
theorem access_cases {a : Access} {s t : State} (h : access a s = .next t) :
    (∃ w, t = { s with answer := some w }) ∨ (∃ off v, off % 4 = 0 ∧ writeWord off v s = .next t) ∨ t = resetBlock s := by
  cases a with
  | read bytes off =>
    simp only [access] at h
    split at h
    · cases h
    split at h
    · cases h
      exact .inl ⟨_, rfl⟩
    · cases h
  | write bytes off v =>
    simp only [access] at h
    split at h
    · cases h
    split at h
    · next hacc =>
      simp only [accepted, Bool.and_eq_true, beq_iff_eq] at hacc
      exact .inr (.inl ⟨off, v, hacc.2, h⟩)
    · cases h
  | hardReset =>
    cases h
    exact .inr (.inr rfl)

theorem step_cases {s t : State} (h : step s = .next t) : t = s ∨ ∃ a rest, access a (takeAccess rest s) = .next t := by
  unfold step at h
  split at h
  · cases h
    exact .inl rfl
  · exact .inr ⟨_, _, h⟩

/-! ## Tags over a step (O17) -/

theorem access_tagsKept {a : Access} {s t : State} (h : access a s = .next t) : TagsKept s t ∨ t = resetBlock s := by
  obtain ⟨w, rfl⟩ | ⟨off, v, -, hw⟩ | rfl := access_cases h
  · exact .inl { tagsKept_refl s with }
  · obtain hc | rfl | rfl | rfl | rfl | ⟨-, rfl⟩ | ⟨n, rfl⟩ := writeWord_cases hw
    · exact .inl (command_tagsKept hc)
    · exact .inl { tagsKept_refl s with }
    · exact .inl { tagsKept_refl s with }
    · exact .inr rfl
    · exact .inl (tagsKept_refl _)
    · exact .inl { tagsKept_refl s with }
    · exact .inl { tagsKept_refl s with }
  · exact .inr rfl

/-- Settles O17: the writes of a command only set tags, and of the other accesses only a reset touches them. -/
theorem tagsSetOnly : Obligations.TagsSetOnly := by
  unfold Obligations.TagsSetOnly
  refine ⟨fun w s t h => command_tagsKept h, fun i s t h h0 => ?_, fun s t h => ?_⟩
  · obtain ⟨hP, hJ, hC, hQ, hA, hLT, hAT, hNT⟩ := exec_tagsOf h h0
    exact ⟨hP, hJ, hC, hQ, hA, hLT, hAT, hNT⟩
  · obtain rfl | ⟨a, rest, ha⟩ := step_cases h
    · exact .inl (tagsKept_refl _)
    · obtain hk | rfl := access_tagsKept ha
      · exact .inl { hk with }
      · exact .inr rfl

/-! ## The invariant (R25, R42, R43, R321, R329) -/

theorem errorCode_legal {e : CmdError} (he : e ≠ .lengthMismatch) : (errorCode e).toNat ≤ 10 ∧ errorCode e ≠ 6 := by
  cases e with
  | lengthMismatch => exact absurd rfl he
  | _ => decide

theorem stickyBit_live {e : CmdError} (he : e ≠ .lengthMismatch) : stickyBit (errorCode e) &&& ~~~(0x7BE : Word32) = 0 := by
  cases e with
  | lengthMismatch => exact absurd rfl he
  | _ => decide

theorem inv_raise {s : State} {e : CmdError} (he : e ≠ .lengthMismatch) (h : Inv s) :
    Inv { s with LASTERR := errorCode e, ERRSTICKY := s.ERRSTICKY ||| stickyBit (errorCode e) } where
  scalars := h.scalars
  lastErr := errorCode_legal he
  sticky := by
    have hor : (s.ERRSTICKY ||| stickyBit (errorCode e)) &&& ~~~(0x7BE : Word32) =
        s.ERRSTICKY &&& ~~~(0x7BE : Word32) ||| stickyBit (errorCode e) &&& ~~~(0x7BE : Word32) := by
      ext i hi
      simp [Bool.and_or_distrib_right]
    rw [hor, h.sticky, stickyBit_live he]
    rfl
  buffers := h.buffers

/-- Writing a reduced scalar keeps every scalar reduced (R25). -/
theorem scalars_setS {s : State} (d : Fin 8) {v : Nat} (hv : v < ell) (h : ∀ i : Fin 8, s.S[i].toNat < ell) (i : Fin 8) :
    (setS d v s).S[i].toNat < ell := by
  have hsmall : ell < 2 ^ 256 := by decide
  by_cases hd : d = i
  · subst hd
    rwa [setS_S, Fin.getElem_fin, Vector.getElem_set_self, BitVec.toNat_ofNat, Nat.mod_eq_of_lt (hv.trans hsmall)]
  · rw [setS_S, Fin.getElem_fin, Vector.getElem_set_ne _ _ fun hv => hd (Fin.ext hv)]
    exact h i

theorem inv_apply {u : Update} {s : State} (hu : ∀ d v, u = .S d v → v < ell) (h : Inv s) : Inv (u.apply s) := by
  cases u with
  | S d v => exact { h with scalars := scalars_setS d (hu d v rfl) h.scalars }
  | IO n b => exact { h with buffers := wf_ioWrite n b h.buffers }
  | _ => exact { h with }

theorem inv_applyAll : ∀ {us : List Update} {s : State}, (∀ d v, .S d v ∈ us → v < ell) → Inv s → Inv (applyAll us s)
  | [], _, _, h => h
  | u :: us, s, hus, h => by
    have hu : Inv (u.apply s) := inv_apply (fun d v hv => hus d v (hv ▸ List.mem_cons_self)) h
    exact inv_applyAll (us := us) (fun d v hv => hus d v (List.mem_cons_of_mem u hv)) hu

theorem exec_inv {i : Instr} {s t : State} (hi : Inv s) (h : exec i s = .next t) : Inv t := by
  obtain ⟨e, he, rfl⟩ | ⟨us, -, hS, rfl⟩ := exec_cases h
  · exact inv_raise he hi
  · have hlt : ∀ d v, .S d v ∈ us → v < ell := by
      intro d v hv
      obtain hv | ⟨a, rfl⟩ := hS d v hv
      · exact hv
      · exact hi.scalars a
    exact { inv_applyAll hlt hi with lastErr := (by decide : (0 : BitVec 4).toNat ≤ 10 ∧ (0 : BitVec 4) ≠ 6) }

theorem command_inv {w : Word32} {s t : State} (hi : Inv s) (h : command w s = .next t) : Inv t := by
  have hi' : Inv { s with CMDCNT := s.CMDCNT + 1 } := { hi with }
  unfold command at h
  cases hd : decode w with
  | ok i =>
    rw [hd] at h
    exact exec_inv hi' h
  | error e =>
    rw [hd] at h
    rw [raise_eq.1 h]
    exact inv_raise (by decide) hi'

theorem inv_reset : Inv State.reset where
  scalars i := by simp [State.reset, ell_pos]
  lastErr := by decide
  sticky := by decide
  buffers := wf_reset

theorem inv_resetBlock (s : State) : Inv (resetBlock s) := { inv_reset with }

theorem sticky_clear {x : Word32} (v : Word32) (h : x &&& ~~~(0x7BE : Word32) = 0) : x &&& ~~~v &&& ~~~(0x7BE : Word32) = 0 := by
  rw [BitVec.and_assoc, BitVec.and_comm (~~~v), ← BitVec.and_assoc, h]
  exact BitVec.zero_and

theorem writeWord_inv {off : Nat} {v : Word32} {s t : State} (h4 : off % 4 = 0) (hi : Inv s) (h : writeWord off v s = .next t) :
    Inv t := by
  obtain hc | rfl | rfl | rfl | rfl | ⟨hio, rfl⟩ | ⟨n, rfl⟩ := writeWord_cases h
  · exact command_inv hi hc
  · exact { hi with sticky := sticky_clear v hi.sticky }
  · exact { hi with }
  · exact inv_resetBlock s
  · exact hi
  · exact { hi with buffers := wf_writeWord v h4 hio hi.buffers }
  · exact { hi with }

/-- Settles O22: the invariant over each case of a step, a command's from its writes. -/
theorem stepKeepsInvariant : Obligations.StepKeepsInvariant := by
  unfold Obligations.StepKeepsInvariant
  intro s t hi h
  obtain rfl | ⟨a, rest, ha⟩ := step_cases h
  · exact hi
  · have hi' : Inv (takeAccess rest s) := { hi with }
    obtain ⟨w, rfl⟩ | ⟨off, v, h4, hw⟩ | rfl := access_cases ha
    · exact { hi' with }
    · exact writeWord_inv h4 hi' hw
    · exact inv_resetBlock _

/-! ## Reset (R51) -/

theorem inDomain_zero : inDomain Limbs.zero := by decide

/-- Settles O23: every register is zero and no tag is set. -/
theorem resetInvariant : Obligations.ResetInvariant := by
  unfold Obligations.ResetInvariant
  refine ⟨inv_reset, ?bounds, fun i hi => ?points⟩
  case bounds =>
    constructor <;> intros <;>
      simp [State.reset, Tagged.empty, ProjCached.zero, AffineCached.zero] <;> exact inDomain_zero
  case points => simp [State.reset, Tagged.empty] at hi

/-- Settles O11: both resets are `resetBlock`, and every vector of `State.reset` repeats its zero. -/
theorem resetValues : Obligations.ResetValues := by
  unfold Obligations.ResetValues
  refine ⟨fun s => rfl, fun s v hv => ?ctrl, ?_⟩
  case ctrl =>
    change Host.Outcome.next (if v.getLsbD 0 then resetBlock s else s) = _
    rw [hv]
    rfl
  simp [State.reset, Tagged.empty, Limbs.zero, ProjCached.zero, AffineCached.zero, readWord, statusWord]

end Sys2Proof.Proofs

/-! The two recodings (41_scalar.md R175, R176): R175's carry loop and R176's window loop keep the value still to be written, and a
digit register holds what they produce (O45, O46). -/

namespace Sys2Proof.Proofs

open Sys2Proof.Machine Sys2Proof.Laws

/-! ## Digit lists and digit registers -/

theorem digitSum_append (b : Int) (l l' : List Int) : digitSum b (l ++ l') = digitSum b l + b ^ l.length * digitSum b l' := by
  induction l with
  | nil => simp [digitSum]
  | cons d ds ih =>
    rw [List.cons_append, digitSum, digitSum, ih, List.length_cons]
    ring

theorem digitSum_replicate_zero (b : Int) (n : Nat) : digitSum b (List.replicate n 0) = 0 := by
  induction n with
  | zero => rfl
  | succ n ih => rw [List.replicate_succ, digitSum, ih]; simp

/-- What a digit register holds after a list of i8 digits was written: the list, then zeros (R189, R190). -/
theorem digits_setDG (g : Fin 8) (s : State) {l : List Int} (hlen : l.length ≤ 256) (hl : ∀ d ∈ l, -128 ≤ d ∧ d < 128) :
    digits (setDG g l s) g = l ++ List.replicate (256 - l.length) 0 := by
  have hread : digits (setDG g l s) g = (digitVector l).toList.map BitVec.toInt := by
    simp only [digits, setDG_DG, Fin.getElem_fin, Vector.getElem_set_self]
  have hget (i : Nat) (hi : i < ((digitVector l).toList.map BitVec.toInt).length) :
      ((digitVector l).toList.map BitVec.toInt)[i] = (BitVec.ofInt 8 (l.getD i 0)).toInt := by
    simp only [digitVector, List.getElem_map, Vector.getElem_toList, Vector.getElem_ofFn]
  have hlen' : ((digitVector l).toList.map BitVec.toInt).length = (l ++ List.replicate (256 - l.length) 0).length := by
    rw [List.length_map, Vector.length_toList, List.length_append, List.length_replicate, Nat.add_sub_cancel' hlen]
  rw [hread]
  refine List.ext_getElem hlen' fun i hi _ => ?_
  rw [hget i hi]
  by_cases h : i < l.length
  · have hr := hl l[i] (List.getElem_mem h)
    rw [List.getElem_append_left h, List.getD_eq_getElem l 0 h, BitVec.toInt_ofInt, Int.bmod_eq_of_le (by omega) (by omega)]
  · rw [List.getElem_append_right (by omega), List.getElem_replicate, List.getD_eq_default l 0 (by omega)]
    rfl

/-! ## Bytes and nibbles -/

theorem leNat_bytesLE (n : Nat) : ∀ v, leNat (bytesLE v n) = v % 256 ^ n := by
  induction n with
  | zero => intro v; simp [bytesLE, leNat, Nat.mod_one]
  | succ n ih =>
    intro v
    rw [bytesLE, leNat, ih, BitVec.toNat_ofNat, pow_succ' 256 n, Nat.mod_mul]

theorem length_bytesLE (n : Nat) : ∀ v, (bytesLE v n).length = n := by
  induction n with
  | zero => intro v; rfl
  | succ n ih => intro v; rw [bytesLE, List.length_cons, ih]

theorem nibbles_cons (x : Byte) (b : List Byte) : nibbles (x :: b) = x.toNat % 16 :: x.toNat / 16 :: nibbles b := rfl

theorem ofDigits_nibbles (b : List Byte) : Nat.ofDigits 16 (nibbles b) = leNat b := by
  induction b with
  | nil => rfl
  | cons x b ih =>
    rw [nibbles_cons, Nat.ofDigits_cons, Nat.ofDigits_cons, ih, leNat]
    omega

theorem length_nibbles (b : List Byte) : (nibbles b).length = 2 * b.length := by
  induction b with
  | nil => rfl
  | cons x b ih => rw [nibbles_cons, List.length_cons, List.length_cons, List.length_cons, ih]; omega

theorem nibbles_lt (b : List Byte) : ∀ d ∈ nibbles b, d < 16 := by
  induction b with
  | nil => exact fun d hd => absurd hd List.not_mem_nil
  | cons x b ih =>
    have := x.isLt
    rw [nibbles_cons]
    intro d hd
    obtain rfl | hd := List.mem_cons.1 hd
    · omega
    obtain rfl | hd := List.mem_cons.1 hd
    · omega
    · exact ih d hd

/-! ## Radix 16 (R175) -/

theorem length_recenter : ∀ (l : List Nat) (c : Nat), (recenter l c).length = l.length
  | [], _ => rfl
  | [_], _ => rfl
  | _ :: e :: ds, c => by
    rw [recenter, List.length_cons, length_recenter (e :: ds), List.length_cons, List.length_cons, List.length_cons]

/-- The carry loop keeps the value: what a digit gives up, the next one gets. -/
theorem digitSum_recenter : ∀ (l : List Nat) (c : Nat), l ≠ [] → digitSum 16 (recenter l c) = (Nat.ofDigits 16 l : Nat) + c
  | [], _, h => absurd rfl h
  | [d], c, _ => by simp [recenter, digitSum]
  | d :: e :: ds, c, _ => by
    rw [recenter, digitSum, digitSum_recenter (e :: ds) _ (by simp), Nat.ofDigits_cons (hd := d)]
    push_cast
    ring

/-- Every digit but the last is recentred to -8..7. -/
theorem recenter_range : ∀ (l : List Nat) (c i : Nat), (∀ d ∈ l, d < 16) → c ≤ 1 → i + 1 < l.length →
    -8 ≤ (recenter l c).getD i 0 ∧ (recenter l c).getD i 0 ≤ 7
  | [], _, _, _, _, hi => absurd hi (by simp)
  | [_], _, _, _, _, hi => absurd hi (by simp)
  | d :: e :: ds, c, i, hl, hc, hi => by
    have hd : d < 16 := hl d (by simp)
    rw [recenter]
    cases i with
    | zero =>
      rw [List.getD_cons_zero]
      omega
    | succ i =>
      rw [List.getD_cons_succ]
      exact recenter_range (e :: ds) _ i (fun x hx => hl x (List.mem_cons_of_mem d hx)) (by omega) (by simpa using hi)

/-- The bounds of a sum of digits -8..7, times 15 so that they are whole. -/
theorem digitSum_bounds (l : List Int) (hl : ∀ d ∈ l, -8 ≤ d ∧ d ≤ 7) :
    -8 * (16 ^ l.length - 1) ≤ 15 * digitSum 16 l ∧ 15 * digitSum 16 l ≤ 7 * (16 ^ l.length - 1) := by
  induction l with
  | nil => simp [digitSum]
  | cons d ds ih =>
    obtain ⟨h1, h2⟩ := ih fun x hx => hl x (List.mem_cons_of_mem d hx)
    have hd := hl d (by simp)
    rw [digitSum, List.length_cons, pow_succ]
    constructor <;> linarith

theorem length_scRadix16 (s : Nat) : (scRadix16 s).length = 64 := by
  rw [scRadix16, length_recenter, length_nibbles, scBytes, length_bytesLE]

theorem digitSum_scRadix16 {s : Nat} (hs : s < ell) : digitSum 16 (scRadix16 s) = s := by
  have hlen : (nibbles (scBytes s)).length = 64 := by rw [length_nibbles, scBytes, length_bytesLE]
  have hne : nibbles (scBytes s) ≠ [] := fun h => by simp [h] at hlen
  have hsmall : s < 256 ^ 32 := hs.trans (by decide)
  rw [scRadix16, digitSum_recenter _ _ hne, ofDigits_nibbles, scBytes, leNat_bytesLE, Nat.mod_eq_of_lt hsmall]
  simp

theorem scRadix16_range (s : Nat) {i : Nat} (hi : i < 63) : -8 ≤ (scRadix16 s).getD i 0 ∧ (scRadix16 s).getD i 0 ≤ 7 :=
  recenter_range _ 0 i (nibbles_lt _) (by omega) (by rw [length_nibbles, scBytes, length_bytesLE]; omega)

/-- The scalar is below `ℓ`, and the 63 digits below the last are worth less than 8/15 of the last's weight: that leaves 0 or 1. -/
theorem scRadix16_last {s : Nat} (hs : s < ell) : 0 ≤ (scRadix16 s).getD 63 0 ∧ (scRadix16 s).getD 63 0 ≤ 1 := by
  have hlen := length_scRadix16 s
  have hsplit : scRadix16 s = (scRadix16 s).take 63 ++ [(scRadix16 s).getD 63 0] := by
    rw [List.getD_eq_getElem _ 0 (by omega), List.take_append_getElem, List.take_of_length_le (by omega)]
  have hlow : ∀ d ∈ (scRadix16 s).take 63, -8 ≤ d ∧ d ≤ 7 := by
    intro d hd
    obtain ⟨i, hi, rfl⟩ := List.getElem_of_mem hd
    have hi63 : i < 63 := by rw [List.length_take] at hi; omega
    rw [List.getElem_take, ← List.getD_eq_getElem _ 0 (by omega)]
    exact scRadix16_range s hi63
  have hsum : digitSum 16 ((scRadix16 s).take 63) + 16 ^ 63 * (scRadix16 s).getD 63 0 = s := by
    have h := digitSum_scRadix16 hs
    rw [hsplit, digitSum_append, List.length_take, hlen] at h
    simpa [digitSum] using h
  obtain ⟨h1, h2⟩ := digitSum_bounds _ hlow
  rw [List.length_take, hlen, show min 63 64 = 63 from rfl] at h1 h2
  unfold ell at hs
  constructor <;> omega

theorem scRadix16_i8 {s : Nat} (hs : s < ell) : ∀ d ∈ scRadix16 s, -128 ≤ d ∧ d < 128 := by
  intro d hd
  obtain ⟨i, hi, rfl⟩ := List.getElem_of_mem hd
  rw [length_scRadix16] at hi
  rw [← List.getD_eq_getElem _ 0 (by rw [length_scRadix16]; exact hi)]
  by_cases h63 : i < 63
  · have := scRadix16_range s h63
    omega
  · have := scRadix16_last hs
    rw [show i = 63 by omega]
    omega

/-- What SRDX16 leaves in its digit register (R189). -/
theorem exec_srdx16 (g a : Fin 8) {s : State} (hs : s.S[a].toNat < ell) :
    ∃ t, exec (.srdx16 g a) s = .next t ∧ t.LASTERR = 0 ∧ digits t g = scRadix16 s.S[a].toNat ++ List.replicate 192 0 := by
  have hlen := length_scRadix16 s.S[a].toNat
  have hdig := digits_setDG g s (by omega) (scRadix16_i8 hs)
  rw [hlen] at hdig
  exact ⟨_, rfl, rfl, hdig⟩

/-- Settles O45: the register holds `scRadix16`, whose sum and digits are bounded above. -/
theorem radix16Recoding : Obligations.Radix16Recoding := by
  unfold Obligations.Radix16Recoding
  intro s g a hs
  have hlen := length_scRadix16 s.S[a].toNat
  obtain ⟨t, ht, h0, hdig⟩ := exec_srdx16 g a hs
  have hlow (i : Nat) (hi : i < 64) : (digits t g).getD i 0 = (scRadix16 s.S[a].toNat).getD i 0 := by
    rw [hdig, List.getD_append _ _ _ _ (by omega)]
  refine ⟨t, ht, h0, ?sum, hdig, fun i hi => ?digit, ?last, fun i hi => ?tail⟩
  case sum => rw [hdig, digitSum_append, digitSum_scRadix16 hs, digitSum_replicate_zero, mul_zero, add_zero]
  case digit =>
    rw [hlow i (by omega)]
    exact scRadix16_range _ hi
  case last =>
    rw [hlow 63 (by omega)]
    exact scRadix16_last hs
  case tail =>
    rw [hdig, List.getD_append_right _ _ _ _ (by omega)]
    by_cases h : i - (scRadix16 s.S[a].toNat).length < 192
    · rw [List.getD_replicate _ h]
    · exact List.getD_eq_default _ _ (by rw [List.length_replicate]; omega)

/-! ## NAF (R176) -/

/-- The value R176's loop has still to write at position `pos` with `skip` positions to leave zero, in units of `2^pos`. -/
def nafRest (s pos skip carry : Nat) : Nat := 2 ^ skip * (s / 2 ^ (pos + skip) + carry)

/-- The loop's invariant: a carry comes from a bit of `s` just below the next position. -/
def NafCarry (s pos skip carry : Nat) : Prop := carry ≤ 1 ∧ (carry = 1 → 2 ^ (pos + skip) ≤ 2 * s)

/-- A NAF digit of width `k + 1` (R176). -/
def NafDigit (k : Nat) (d : Int) : Prop := d = 0 ∨ (d % 2 = 1 ∧ d.natAbs < 2 ^ k)

/-- One position of R176's loop writes `d` and goes on with `skip'` and `carry'`. -/
structure NafPosition (s k n pos skip carry : Nat) (d : Int) (skip' carry' : Nat) : Prop where
  writes : nafFrom s (k + 1) (n + 1) pos skip carry = d :: nafFrom s (k + 1) n (pos + 1) skip' carry'
  nextCarry : NafCarry s (pos + 1) skip' carry'
  digit : NafDigit k d
  value : d + 2 * (nafRest s (pos + 1) skip' carry' : Nat) = (nafRest s pos skip carry : Nat)
  spaced : d ≠ 0 → skip' = k
  skipped : 0 < skip → d = 0 ∧ skip = skip' + 1

/-- A position that is skipped. -/
theorem nafPosition_skip {s k n pos skip carry : Nat} (hc : NafCarry s pos (skip + 1) carry) :
    NafPosition s k n pos (skip + 1) carry 0 skip carry := by
  have hpos : pos + 1 + skip = pos + (skip + 1) := by omega
  refine ⟨rfl, ⟨hc.1, by rw [hpos]; exact hc.2⟩, .inl rfl, ?_, fun h => absurd rfl h, fun _ => ⟨rfl, rfl⟩⟩
  rw [nafRest, nafRest, hpos, pow_succ]
  push_cast
  ring

/-- A position at which the window is looked at: it is even, or odd in the lower half of its range, or odd in the upper half. -/
theorem nafPosition_window {s k n pos carry : Nat} (hk : 1 ≤ k) (hc : NafCarry s pos 0 carry) :
    ∃ d skip' carry', NafPosition s k n pos 0 carry d skip' carry' := by
  obtain ⟨hle, -⟩ := hc
  have hpow : 2 ^ (k + 1) = 2 * 2 ^ k := pow_succ' 2 k
  have hk2 : 2 ^ k % 2 = 0 := by rw [show k = k - 1 + 1 by omega, pow_succ, Nat.mul_mod_left]
  have hsplit := Nat.div_add_mod (s / 2 ^ pos) (2 ^ (k + 1))
  have hmod := Nat.mod_lt (s / 2 ^ pos) (Nat.two_pow_pos (k + 1))
  have hhalf : s / 2 ^ (pos + 1 + 0) = s / 2 ^ pos / 2 := by rw [Nat.add_zero, pow_succ, Nat.div_div_eq_div_mul]
  have hnext : s / 2 ^ (pos + 1 + k) = s / 2 ^ pos / 2 ^ (k + 1) := by
    rw [Nat.div_div_eq_div_mul, ← pow_add, Nat.add_assoc, Nat.add_comm 1 k]
  -- a set bit of `s` at `pos + j` bounds the carry it can make
  have hbit {j : Nat} (h : 2 ^ j ≤ s / 2 ^ pos) : 2 ^ (pos + 1 + j) ≤ 2 * s :=
    calc 2 ^ (pos + 1 + j) = 2 * (2 ^ pos * 2 ^ j) := by ring
      _ ≤ 2 * (2 ^ pos * (s / 2 ^ pos)) := by gcongr
      _ ≤ 2 * s := by gcongr; exact Nat.mul_div_le s _
  have hrest : nafRest s pos 0 carry = s / 2 ^ pos + carry := by simp [nafRest]
  have hstep : nafFrom s (k + 1) (n + 1) pos 0 carry =
      if (carry + s / 2 ^ pos % 2 ^ (k + 1)) % 2 = 0 then 0 :: nafFrom s (k + 1) n (pos + 1) 0 carry
      else if carry + s / 2 ^ pos % 2 ^ (k + 1) < 2 ^ k then
        ((carry + s / 2 ^ pos % 2 ^ (k + 1) : Nat) : Int) :: nafFrom s (k + 1) n (pos + 1) k 0
      else (((carry + s / 2 ^ pos % 2 ^ (k + 1) : Nat) : Int) - ((2 ^ (k + 1) : Nat) : Int)) ::
        nafFrom s (k + 1) n (pos + 1) k 1 := rfl
  rw [hpow] at hsplit hmod hnext hstep
  generalize s / 2 ^ pos = a at *
  generalize a / (2 * 2 ^ k) = q at *
  generalize a % (2 * 2 ^ k) = m at *
  have hpair : 2 * 2 ^ k * q = 2 * (2 ^ k * q) := by ring
  by_cases heven : (carry + m) % 2 = 0
  · refine ⟨0, 0, carry, by rw [hstep, if_pos heven], ⟨hle, fun h1 => hbit (j := 0) ?_⟩, .inl rfl, ?_, fun h => absurd rfl h,
      fun h => absurd h (lt_irrefl 0)⟩
    · rw [pow_zero]
      omega
    · rw [hrest, nafRest, hhalf, pow_zero, one_mul]
      omega
  by_cases hlow : carry + m < 2 ^ k
  · refine ⟨_, k, 0, by rw [hstep, if_neg heven, if_pos hlow], ⟨by omega, nofun⟩, .inr ⟨by omega, by omega⟩, ?_, fun _ => rfl,
      fun h => absurd h (lt_irrefl 0)⟩
    rw [hrest, nafRest, hnext, Nat.add_zero]
    omega
  · refine ⟨_, k, 1, by rw [hstep, if_neg heven, if_neg hlow], ⟨le_refl 1, fun _ => hbit (by omega)⟩, .inr ⟨by omega, by omega⟩,
      ?_, fun _ => rfl, fun h => absurd h (lt_irrefl 0)⟩
    rw [hrest, nafRest, hnext, Nat.mul_add, Nat.mul_one]
    omega

theorem nafFrom_succ {s k : Nat} (n : Nat) {pos skip carry : Nat} (hk : 1 ≤ k) (hc : NafCarry s pos skip carry) :
    ∃ d skip' carry', NafPosition s k n pos skip carry d skip' carry' := by
  cases skip with
  | zero => exact nafPosition_window hk hc
  | succ skip => exact ⟨0, skip, carry, nafPosition_skip hc⟩

theorem length_nafFrom (s w : Nat) : ∀ n pos skip carry, (nafFrom s w n pos skip carry).length = n
  | 0, _, _, _ => rfl
  | n + 1, pos, skip + 1, carry => by rw [nafFrom, List.length_cons, length_nafFrom]
  | n + 1, pos, 0, carry => by
    rw [nafFrom]
    split_ifs <;> rw [List.length_cons, length_nafFrom]

section Naf

variable {s k : Nat}

/-- The digits written from a position on are worth what was still to be written. -/
theorem digitSum_nafFrom (hk : 1 ≤ k) (hs : 2 * s < 2 ^ 256) : ∀ (n pos skip carry : Nat), pos + n = 256 →
    NafCarry s pos skip carry → digitSum 2 (nafFrom s (k + 1) n pos skip carry) = (nafRest s pos skip carry : Nat)
  | 0, pos, skip, carry, hpos, ⟨hle, hbit⟩ => by
    have hbig : 2 * s < 2 ^ (pos + skip) := hs.trans_le (Nat.pow_le_pow_right (by omega) (by omega))
    have hcarry : carry = 0 := by
      by_contra h
      have := hbit (by omega)
      omega
    rw [nafRest, Nat.div_eq_of_lt (by omega), hcarry]
    rfl
  | n + 1, pos, skip, carry, hpos, hc => by
    obtain ⟨d, skip', carry', h⟩ := nafFrom_succ n hk hc
    rw [h.writes, digitSum, digitSum_nafFrom hk hs n (pos + 1) skip' carry' (by omega) h.nextCarry, h.value]

theorem nafDigit_nafFrom (hk : 1 ≤ k) : ∀ (n pos skip carry : Nat), NafCarry s pos skip carry →
    ∀ d ∈ nafFrom s (k + 1) n pos skip carry, NafDigit k d
  | 0, _, _, _, _, _, h => absurd h List.not_mem_nil
  | n + 1, pos, skip, carry, hc, d, hd => by
    obtain ⟨d', skip', carry', h⟩ := nafFrom_succ n hk hc
    rw [h.writes] at hd
    obtain rfl | hd := List.mem_cons.1 hd
    · exact h.digit
    · exact nafDigit_nafFrom hk n _ _ _ h.nextCarry d hd

/-- Positions to be skipped are left zero. -/
theorem nafFrom_skip (hk : 1 ≤ k) : ∀ (n pos skip carry j : Nat), NafCarry s pos skip carry → j < skip →
    (nafFrom s (k + 1) n pos skip carry).getD j 0 = 0
  | 0, _, _, _, _, _, _ => rfl
  | n + 1, pos, skip, carry, j, hc, hj => by
    obtain ⟨d, skip', carry', h⟩ := nafFrom_succ n hk hc
    obtain ⟨rfl, hskip⟩ := h.skipped (by omega)
    rw [h.writes]
    cases j with
    | zero => rfl
    | succ j => exact nafFrom_skip hk n _ _ _ j h.nextCarry (by omega)

/-- After a non-zero digit the next `k` are zero. -/
theorem nafFrom_spaced (hk : 1 ≤ k) : ∀ (n pos skip carry i j : Nat), NafCarry s pos skip carry → i < j → j < i + (k + 1) →
    (nafFrom s (k + 1) n pos skip carry).getD i 0 ≠ 0 → (nafFrom s (k + 1) n pos skip carry).getD j 0 = 0
  | 0, _, _, _, _, _, _, _, _, h => absurd rfl h
  | n + 1, pos, skip, carry, i, j + 1, hc, hij, hj, hi => by
    obtain ⟨d, skip', carry', h⟩ := nafFrom_succ n hk hc
    rw [h.writes] at hi ⊢
    rw [List.getD_cons_succ]
    cases i with
    | zero =>
      rw [List.getD_cons_zero] at hi
      exact nafFrom_skip hk n _ _ _ j h.nextCarry (by rw [h.spaced hi]; omega)
    | succ i => exact nafFrom_spaced hk n _ _ _ i j h.nextCarry (by omega) (by omega) (by rwa [List.getD_cons_succ] at hi)

end Naf

theorem nafCarry_start (s : Nat) : NafCarry s 0 0 0 := ⟨by omega, nofun⟩

/-- What SNAF leaves in its digit register (R190). -/
theorem exec_snaf (g a : Fin 8) (s : State) {k : Nat} (hk : k = 4 ∨ k = 7) :
    ∃ t, exec (.snaf g a (k + 1)) s = .next t ∧ t.LASTERR = 0 ∧ digits t g = scNaf s.S[a].toNat (k + 1) := by
  have hw : legalNafWidth (k + 1) = true := by rcases hk with rfl | rfl <;> rfl
  have hlen : (scNaf s.S[a].toNat (k + 1)).length = 256 := length_nafFrom _ _ _ _ _ _
  have hbig : 2 ^ k ≤ 128 := by rcases hk with rfl | rfl <;> decide
  have hi8 : ∀ d ∈ scNaf s.S[a].toNat (k + 1), -128 ≤ d ∧ d < 128 := by
    intro d hd
    obtain rfl | ⟨-, hd⟩ := nafDigit_nafFrom (by omega) 256 0 0 0 (nafCarry_start _) d hd
    · decide
    · omega
  have hdig := digits_setDG g s (by omega) hi8
  rw [hlen] at hdig
  refine ⟨{ setDG g (scNaf s.S[a].toNat (k + 1)) s with LASTERR := 0 }, ?_, rfl, ?_⟩
  · change withLegal (legalNafWidth (k + 1)) s _ = _
    rw [hw]
    rfl
  · exact hdig.trans (List.append_nil _)

/-- Settles O46: the register holds `scNaf`; its value, digits and spacing are the loop's, from position 0 with no carry. -/
theorem nafRecoding : Obligations.NafRecoding := by
  unfold Obligations.NafRecoding
  intro s g a w hw hs
  obtain ⟨k, hk, rfl⟩ : ∃ k, (k = 4 ∨ k = 7) ∧ w = k + 1 := ⟨w - 1, by omega, by omega⟩
  have hk1 : 1 ≤ k := by omega
  have hs2 : 2 * s.S[a].toNat < 2 ^ 256 := by unfold ell at hs; omega
  obtain ⟨t, ht, h0, hdig⟩ := exec_snaf g a s hk
  refine ⟨t, ht, h0, ?sum, hdig, fun i => ?digit, fun i j => ?spacing⟩
  case sum =>
    rw [hdig, scNaf, digitSum_nafFrom hk1 hs2 256 0 0 0 rfl (nafCarry_start _)]
    simp [nafRest]
  case digit =>
    rw [hdig]
    by_cases hi : i < (scNaf s.S[a].toNat (k + 1)).length
    · rw [List.getD_eq_getElem _ 0 hi]
      exact nafDigit_nafFrom hk1 256 0 0 0 (nafCarry_start _) _ (List.getElem_mem hi)
    · exact .inl (List.getD_eq_default _ 0 (by omega))
  case spacing =>
    rw [hdig]
    exact nafFrom_spaced hk1 256 0 0 0 i j (nafCarry_start _)

end Sys2Proof.Proofs

/-! The field functions as arithmetic mod p (40_field.md R121 to R135): what each returns as a field element, and its bounds, on the
domain of limb vectors. First the u64 arithmetic of a limb, then the sums and products, then the comparisons. -/

namespace Sys2Proof.Proofs

open Sys2Proof.Machine Sys2Proof.Laws

/-! ## Limbs as natural numbers -/

theorem toNat_and_mask51 (x : U64) : (x &&& mask51).toNat = x.toNat % 2 ^ 51 := by
  rw [BitVec.toNat_and, show mask51.toNat = 2 ^ 51 - 1 from rfl, Nat.and_two_pow_sub_one_eq_mod]

theorem toNat_shift51 (x : U64) : (x >>> 51).toNat = x.toNat / 2 ^ 51 := by
  rw [BitVec.toNat_ushiftRight, Nat.shiftRight_eq_div_pow]

theorem toNat_add_lt {x y : U64} (h : x.toNat + y.toNat < 2 ^ 64) : (x + y).toNat = x.toNat + y.toNat := by
  rw [BitVec.toNat_add, Nat.mod_eq_of_lt h]

theorem toNat_mul19_lt {x : U64} (h : 19 * x.toNat < 2 ^ 64) : (19 * x).toNat = 19 * x.toNat := by
  rw [BitVec.toNat_mul, show BitVec.toNat (19 : U64) = 19 from rfl, Nat.mod_eq_of_lt h]

/-- A limb that takes the carry of the one below it. -/
theorem toNat_add_carry {x y : U64} (h : x.toNat ≤ 2 ^ 64 - 2 ^ 13) : (x + y >>> 51).toNat = x.toNat + y.toNat / 2 ^ 51 := by
  have hy := y.isLt
  rw [toNat_add_lt (by rw [toNat_shift51]; omega), toNat_shift51]

/-- `x + c − y` with `y ≤ c`, as `fe_sub` forms it (R124). -/
theorem toNat_add_sub {x c y : U64} (hxc : x.toNat + c.toNat < 2 ^ 64) (hy : y.toNat ≤ c.toNat) :
    (x + c - y).toNat = x.toNat + c.toNat - y.toNat := by
  rw [BitVec.toNat_sub_of_le (by rw [BitVec.le_def, toNat_add_lt hxc]; omega), toNat_add_lt hxc]

/-! ## Bounds -/

theorem carryok_of_loose {l : Limbs} (h : loose l) : carryok l := by
  obtain ⟨h0, h1, h2, h3, h4⟩ := h
  refine ⟨?_, ?_, ?_, ?_, ?_⟩ <;> omega

theorem inDomain_of_tight {l : Limbs} (h : tight l) : inDomain l := by
  obtain ⟨h0, h1, h2, h3, h4⟩ := h
  refine ⟨⟨?_, ?_, ?_, ?_, ?_⟩, ⟨?_, ?_, ?_, ?_, ?_⟩⟩ <;> omega

theorem toNat_limbOf (v i : Nat) : (limbOf v i).toNat = v / 2 ^ (51 * i) % 2 ^ 51 := by
  rw [limbOf, BitVec.toNat_ofNat, Nat.mod_eq_of_lt ((Nat.mod_lt _ (by decide)).trans (by decide))]

theorem tight_limbs (v : Nat) : tight (limbs v) := by
  have h (i : Nat) : (limbOf v i).toNat < 2 ^ 51 := by
    rw [toNat_limbOf]
    exact Nat.mod_lt _ (by decide)
  have h0 := h 0
  refine ⟨?_, Nat.le_sub_one_of_lt (h 1), Nat.le_sub_one_of_lt (h 2), Nat.le_sub_one_of_lt (h 3), Nat.le_sub_one_of_lt (h 4)⟩
  change (limbOf v 0).toNat ≤ _
  omega

/-- The 51-bit split loses nothing below `2^255` (R12, R133). -/
theorem val_limbs {v : Nat} (h : v < 2 ^ 255) : val (limbs v) = v := by
  simp only [val, limbs, toNat_limbOf]
  omega

theorem toField_limbs {v : Nat} (h : v < 2 ^ 255) : toField (limbs v) = v := by
  rw [toField, val_limbs h]

/-! ## Carry, addition and subtraction (R122 to R125) -/

theorem two_pow_255_eq : (2 : ZMod fieldP) ^ 255 = 19 := by
  have h : (2 : Nat) ^ 255 = fieldP + 19 := by decide
  have hc := congrArg (Nat.cast (R := ZMod fieldP)) h
  rw [Nat.cast_add, ZMod.natCast_self, zero_add] at hc
  exact_mod_cast hc

/-- The carry pass moves every limb's high part up, the top one back to the bottom as 19 times itself. -/
theorem feCarry_spec {l : Limbs} (h : carryok l) : (∃ c, val (feCarry l) + c * fieldP = val l) ∧ tight (feCarry l) := by
  obtain ⟨h0, h1, h2, h3, h4⟩ := h
  have hl0 := l.l0.isLt
  have e1 := toNat_add_carry (y := l.l0) h1
  have e2 := toNat_add_carry (y := l.l1 + l.l0 >>> 51) h2
  have e3 := toNat_add_carry (y := l.l2 + (l.l1 + l.l0 >>> 51) >>> 51) h3
  have e4 := toNat_add_carry (y := l.l3 + (l.l2 + (l.l1 + l.l0 >>> 51) >>> 51) >>> 51) h4
  have e0 : ∀ x : U64, ((l.l0 &&& mask51) + (x >>> 51) * 19).toNat = l.l0.toNat % 2 ^ 51 + 19 * (x.toNat / 2 ^ 51) := by
    intro x
    have hx := x.isLt
    have hs := toNat_shift51 x
    have hm := toNat_and_mask51 l.l0
    have h19 : ((x >>> 51) * 19).toNat = 19 * (x >>> 51).toNat := by
      rw [BitVec.mul_comm, toNat_mul19_lt (by omega)]
    rw [toNat_add_lt (by omega), h19, hs, hm]
  simp only [tight, Limbs.le, val, feCarry, e0, toNat_and_mask51]
  generalize l.l1 + l.l0 >>> 51 = x1 at *
  generalize l.l2 + x1 >>> 51 = x2 at *
  generalize l.l3 + x2 >>> 51 = x3 at *
  generalize l.l4 + x3 >>> 51 = x4 at *
  have hx4 := x4.isLt
  refine ⟨⟨x4.toNat / 2 ^ 51, ?_⟩, ?_, ?_, ?_, ?_, ?_⟩
  · unfold fieldP
    omega
  all_goals omega

theorem feCarry_exact {l : Limbs} (h : carryok l) : toField (feCarry l) = toField l ∧ tight (feCarry l) := by
  obtain ⟨⟨c, hc⟩, ht⟩ := feCarry_spec h
  refine ⟨?_, ht⟩
  rw [toField, toField, ← hc]
  push_cast
  rw [ZMod.natCast_self, mul_zero, add_zero]

theorem feAdd_exact {a b : Limbs} (ha : loose a) (hb : loose b) :
    toField (feAdd a b) = toField a + toField b ∧ tight (feAdd a b) := by
  obtain ⟨a0, a1, a2, a3, a4⟩ := ha
  obtain ⟨b0, b1, b2, b3, b4⟩ := hb
  have e0 := toNat_add_lt (x := a.l0) (y := b.l0) (by omega)
  have e1 := toNat_add_lt (x := a.l1) (y := b.l1) (by omega)
  have e2 := toNat_add_lt (x := a.l2) (y := b.l2) (by omega)
  have e3 := toNat_add_lt (x := a.l3) (y := b.l3) (by omega)
  have e4 := toNat_add_lt (x := a.l4) (y := b.l4) (by omega)
  have hok : carryok ⟨a.l0 + b.l0, a.l1 + b.l1, a.l2 + b.l2, a.l3 + b.l3, a.l4 + b.l4⟩ := by
    refine ⟨?_, ?_, ?_, ?_, ?_⟩ <;> dsimp only <;> omega
  obtain ⟨hv, ht⟩ := feCarry_exact hok
  refine ⟨hv.trans ?_, ht⟩
  simp only [toField, val, e0, e1, e2, e3, e4]
  push_cast
  ring

theorem val_twoP : val twoP = 2 * fieldP := by decide

theorem feSub_exact {a b : Limbs} (ha : loose a) (hb : subok b) :
    toField (feSub a b) = toField a - toField b ∧ tight (feSub a b) := by
  obtain ⟨a0, a1, a2, a3, a4⟩ := ha
  obtain ⟨b0, b1, b2, b3, b4⟩ := hb
  have p0 : twoP.l0.toNat = 2 ^ 52 - 38 := rfl
  have p1 : twoP.l1.toNat = 2 ^ 52 - 2 := rfl
  have p2 : twoP.l2.toNat = 2 ^ 52 - 2 := rfl
  have p3 : twoP.l3.toNat = 2 ^ 52 - 2 := rfl
  have p4 : twoP.l4.toNat = 2 ^ 52 - 2 := rfl
  have e0 := toNat_add_sub (x := a.l0) (c := twoP.l0) (y := b.l0) (by omega) (by omega)
  have e1 := toNat_add_sub (x := a.l1) (c := twoP.l1) (y := b.l1) (by omega) (by omega)
  have e2 := toNat_add_sub (x := a.l2) (c := twoP.l2) (y := b.l2) (by omega) (by omega)
  have e3 := toNat_add_sub (x := a.l3) (c := twoP.l3) (y := b.l3) (by omega) (by omega)
  have e4 := toNat_add_sub (x := a.l4) (c := twoP.l4) (y := b.l4) (by omega) (by omega)
  have hok : carryok ⟨a.l0 + twoP.l0 - b.l0, a.l1 + twoP.l1 - b.l1, a.l2 + twoP.l2 - b.l2, a.l3 + twoP.l3 - b.l3,
      a.l4 + twoP.l4 - b.l4⟩ := by
    refine ⟨?_, ?_, ?_, ?_, ?_⟩ <;> dsimp only <;> omega
  obtain ⟨hv, ht⟩ := feCarry_exact hok
  refine ⟨hv.trans ?_, ht⟩
  have hsum : val ⟨a.l0 + twoP.l0 - b.l0, a.l1 + twoP.l1 - b.l1, a.l2 + twoP.l2 - b.l2, a.l3 + twoP.l3 - b.l3,
      a.l4 + twoP.l4 - b.l4⟩ + val b = val a + 2 * fieldP := by
    rw [← val_twoP]
    simp only [val]
    omega
  have hc := congrArg (Nat.cast (R := ZMod fieldP)) hsum
  push_cast at hc
  rw [ZMod.natCast_self, mul_zero, add_zero] at hc
  exact eq_sub_of_add_eq hc

theorem feNeg_exact {a : Limbs} (ha : subok a) : toField (feNeg a) = -toField a ∧ tight (feNeg a) := by
  have h := feSub_exact (a := feZero) (by decide) ha
  rwa [show toField feZero = 0 by simp [toField, val, feZero], zero_sub] at h

/-! ## Products (R126 to R128) -/

theorem toNat_foldLow (n : Nat) : (foldLow (column n)).toNat = n % 2 ^ 51 := by
  rw [foldLow, toNat_and_mask51, BitVec.toNat_setWidth, column, BitVec.toNat_ofNat]
  omega

theorem toNat_foldHigh {n : Nat} (h : n < 2 ^ 115) : (foldHigh (column n)).toNat = n / 2 ^ 51 := by
  rw [foldHigh, BitVec.toNat_setWidth, BitVec.toNat_ushiftRight, Nat.shiftRight_eq_div_pow, column, BitVec.toNat_ofNat]
  omega

/-- Five columns folded to a limb vector of their value. -/
theorem feFold_exact {r0 r1 r2 r3 r4 : Nat} {x : ZMod fieldP} (h0 : r0 < 2 ^ 111) (h1 : r1 < 2 ^ 111) (h2 : r2 < 2 ^ 111)
    (h3 : r3 < 2 ^ 111) (h4 : r4 < 2 ^ 107)
    (hx : (r0 + r1 * 2 ^ 51 + r2 * 2 ^ 102 + r3 * 2 ^ 153 + r4 * 2 ^ 204 : ZMod fieldP) = x) :
    toField (feFold (column r0) (column r1) (column r2) (column r3) (column r4)) = x ∧
      tight (feFold (column r0) (column r1) (column r2) (column r3) (column r4)) := by
  have lo0 := toNat_foldLow r0
  have lo1 := toNat_foldLow r1
  have lo2 := toNat_foldLow r2
  have lo3 := toNat_foldLow r3
  have lo4 := toNat_foldLow r4
  have hi0 := toNat_foldHigh (n := r0) (by omega)
  have hi1 := toNat_foldHigh (n := r1) (by omega)
  have hi2 := toNat_foldHigh (n := r2) (by omega)
  have hi3 := toNat_foldHigh (n := r3) (by omega)
  have hi4 := toNat_foldHigh (n := r4) (by omega)
  have hi4' := toNat_mul19_lt (x := foldHigh (column r4)) (by omega)
  have e0 := toNat_add_lt (x := foldLow (column r0)) (y := 19 * foldHigh (column r4)) (by omega)
  have e1 := toNat_add_lt (x := foldLow (column r1)) (y := foldHigh (column r0)) (by omega)
  have e2 := toNat_add_lt (x := foldLow (column r2)) (y := foldHigh (column r1)) (by omega)
  have e3 := toNat_add_lt (x := foldLow (column r3)) (y := foldHigh (column r2)) (by omega)
  have e4 := toNat_add_lt (x := foldLow (column r4)) (y := foldHigh (column r3)) (by omega)
  have hok : carryok ⟨foldLow (column r0) + 19 * foldHigh (column r4), foldLow (column r1) + foldHigh (column r0),
      foldLow (column r2) + foldHigh (column r1), foldLow (column r3) + foldHigh (column r2),
      foldLow (column r4) + foldHigh (column r3)⟩ := by
    refine ⟨?_, ?_, ?_, ?_, ?_⟩ <;> dsimp only <;> omega
  obtain ⟨hv, ht⟩ := feCarry_exact hok
  refine ⟨hv.trans ?_, ht⟩
  have hsum : val ⟨foldLow (column r0) + 19 * foldHigh (column r4), foldLow (column r1) + foldHigh (column r0),
      foldLow (column r2) + foldHigh (column r1), foldLow (column r3) + foldHigh (column r2),
      foldLow (column r4) + foldHigh (column r3)⟩ + r4 / 2 ^ 51 * fieldP =
      r0 + r1 * 2 ^ 51 + r2 * 2 ^ 102 + r3 * 2 ^ 153 + r4 * 2 ^ 204 := by
    simp only [val, fieldP]
    omega
  have hc := congrArg (Nat.cast (R := ZMod fieldP)) hsum
  push_cast at hc
  rw [ZMod.natCast_self, mul_zero, add_zero] at hc
  rw [← hx, toField]
  linear_combination hc

/-- The bounds of one limb's five partial products. -/
theorem products_le {x : Nat} {b : Limbs} (hx : x ≤ 2 ^ 52 - 1) (hb : loose b) :
    x * b.l0.toNat ≤ 2 ^ 104 ∧ x * b.l1.toNat ≤ 2 ^ 104 ∧ x * b.l2.toNat ≤ 2 ^ 104 ∧ x * b.l3.toNat ≤ 2 ^ 104 ∧
      x * b.l4.toNat ≤ 2 ^ 104 := by
  obtain ⟨b0, b1, b2, b3, b4⟩ := hb
  have h {y : Nat} (hy : y ≤ 2 ^ 52 - 1) : x * y ≤ 2 ^ 104 := (Nat.mul_le_mul hx hy).trans (by decide)
  exact ⟨h b0, h b1, h b2, h b3, h b4⟩

/-- The columns are bounded linearly in the partial products; the weights of `2^255` and more come down with `2^255 = 19`. -/
theorem feMul_exact {a b : Limbs} (ha : loose a) (hb : loose b) :
    toField (feMul a b) = toField a * toField b ∧ tight (feMul a b) := by
  obtain ⟨a0, a1, a2, a3, a4⟩ := ha
  have p0 := products_le a0 hb
  have p1 := products_le a1 hb
  have p2 := products_le a2 hb
  have p3 := products_le a3 hb
  have p4 := products_le a4 hb
  unfold feMul
  refine feFold_exact (by omega) (by omega) (by omega) (by omega) (by omega) ?_
  simp only [toField, val]
  push_cast
  linear_combination
    (-(a.l1.toNat * b.l4.toNat + a.l2.toNat * b.l3.toNat + a.l3.toNat * b.l2.toNat + a.l4.toNat * b.l1.toNat : ZMod fieldP) -
      2 ^ 51 * (a.l2.toNat * b.l4.toNat + a.l3.toNat * b.l3.toNat + a.l4.toNat * b.l2.toNat) -
      2 ^ 102 * (a.l3.toNat * b.l4.toNat + a.l4.toNat * b.l3.toNat) - 2 ^ 153 * (a.l4.toNat * b.l4.toNat)) * two_pow_255_eq

/-- Squaring is multiplication by itself, limb for limb on every input (R128). -/
theorem feSqr_eq_feMul (a : Limbs) : feSqr a = feMul a a := by
  unfold feSqr feMul
  dsimp only
  congr 2 <;> ring

theorem feSqr_exact {a : Limbs} (ha : loose a) : toField (feSqr a) = toField a ^ 2 ∧ tight (feSqr a) := by
  rw [feSqr_eq_feMul, sq]
  exact feMul_exact ha ha

/-! ## The canonical form and the comparisons (R131, R132, R134, R135) -/

/-- A value below 2p is reduced by the carry out of `v + 19` (R131). -/
theorem mod_fieldP {v : Nat} (h : v < 2 * fieldP) : (v + 19 * ((v + 19) / 2 ^ 255)) % 2 ^ 255 = v % fieldP := by
  unfold fieldP at *
  by_cases hv : v < 2 ^ 255 - 19
  · have hq : (v + 19) / 2 ^ 255 = 0 := by omega
    rw [hq]
    omega
  · have hq : (v + 19) / 2 ^ 255 = 1 := by omega
    rw [hq]
    omega

/-- R131's second pass on the limbs `t0..t4` of a tight vector: `y4 / 2^51` is the carry out of `t + 19`; adding 19 times that
carry and dropping bit 255 reduces mod p. -/
theorem reduce_limbs {t0 t1 t2 t3 t4 y0 y1 y2 y3 y4 m0 m1 m2 m3 m4 : Nat} (b0 : t0 ≤ 2 ^ 51 + 2 ^ 13 * 19) (b1 : t1 ≤ 2 ^ 51 - 1)
    (b2 : t2 ≤ 2 ^ 51 - 1) (b3 : t3 ≤ 2 ^ 51 - 1) (b4 : t4 ≤ 2 ^ 51 - 1) (h0 : y0 = t0 + 19) (h1 : y1 = t1 + y0 / 2 ^ 51)
    (h2 : y2 = t2 + y1 / 2 ^ 51) (h3 : y3 = t3 + y2 / 2 ^ 51) (h4 : y4 = t4 + y3 / 2 ^ 51)
    (e0 : m0 = t0 + 19 * (y4 / 2 ^ 51)) (e1 : m1 = t1 + m0 / 2 ^ 51) (e2 : m2 = t2 + m1 / 2 ^ 51) (e3 : m3 = t3 + m2 / 2 ^ 51)
    (e4 : m4 = t4 + m3 / 2 ^ 51) :
    m0 % 2 ^ 51 + m1 % 2 ^ 51 * 2 ^ 51 + m2 % 2 ^ 51 * 2 ^ 102 + m3 % 2 ^ 51 * 2 ^ 153 + m4 % 2 ^ 51 * 2 ^ 204 =
      (t0 + t1 * 2 ^ 51 + t2 * 2 ^ 102 + t3 * 2 ^ 153 + t4 * 2 ^ 204) % fieldP := by
  have hc : y4 / 2 ^ 51 = (t0 + t1 * 2 ^ 51 + t2 * 2 ^ 102 + t3 * 2 ^ 153 + t4 * 2 ^ 204 + 19) / 2 ^ 255 := by omega
  have hm : m0 % 2 ^ 51 + m1 % 2 ^ 51 * 2 ^ 51 + m2 % 2 ^ 51 * 2 ^ 102 + m3 % 2 ^ 51 * 2 ^ 153 + m4 % 2 ^ 51 * 2 ^ 204 =
      (t0 + t1 * 2 ^ 51 + t2 * 2 ^ 102 + t3 * 2 ^ 153 + t4 * 2 ^ 204 + 19 * (y4 / 2 ^ 51)) % 2 ^ 255 := by omega
  rw [hm, hc]
  refine mod_fieldP ?_
  unfold fieldP
  omega

theorem feReduce_val {l : Limbs} (h : carryok l) : val (feReduce l) = val l % fieldP := by
  obtain ⟨⟨c, hc⟩, ht⟩ := feCarry_spec h
  rw [← hc, Nat.add_mul_mod_self_right]
  unfold feReduce
  generalize feCarry l = t at *
  obtain ⟨b0, b1, b2, b3, b4⟩ := ht
  have x0 : (t.l0 + 19).toNat = t.l0.toNat + 19 := toNat_add_lt (by change _ + 19 < _; omega)
  dsimp only
  generalize t.l0 + 19 = y0 at *
  have x1 := toNat_add_carry (x := t.l1) (y := y0) (by omega)
  generalize t.l1 + y0 >>> 51 = y1 at *
  have x2 := toNat_add_carry (x := t.l2) (y := y1) (by omega)
  generalize t.l2 + y1 >>> 51 = y2 at *
  have x3 := toNat_add_carry (x := t.l3) (y := y2) (by omega)
  generalize t.l3 + y2 >>> 51 = y3 at *
  have x4 := toNat_add_carry (x := t.l4) (y := y3) (by omega)
  generalize t.l4 + y3 >>> 51 = y4 at *
  have hy4 := y4.isLt
  have hs := toNat_shift51 y4
  have h19 := toNat_mul19_lt (x := y4 >>> 51) (by omega)
  have z0 := toNat_add_lt (x := t.l0) (y := (19 : U64) * (y4 >>> 51)) (by omega)
  generalize t.l0 + (19 : U64) * (y4 >>> 51) = w0 at *
  have z1 := toNat_add_carry (x := t.l1) (y := w0) (by omega)
  generalize t.l1 + w0 >>> 51 = w1 at *
  have z2 := toNat_add_carry (x := t.l2) (y := w1) (by omega)
  generalize t.l2 + w1 >>> 51 = w2 at *
  have z3 := toNat_add_carry (x := t.l3) (y := w2) (by omega)
  generalize t.l3 + w2 >>> 51 = w3 at *
  have z4 := toNat_add_carry (x := t.l4) (y := w3) (by omega)
  generalize t.l4 + w3 >>> 51 = w4 at *
  simp only [val, toNat_and_mask51]
  exact reduce_limbs b0 b1 b2 b3 b4 x0 x1 x2 x3 x4 (by rw [z0, h19, hs]) z1 z2 z3 z4

theorem leNat_feBytes {l : Limbs} (h : carryok l) : leNat (feBytes l) = val l % fieldP := by
  have hp : fieldP < 256 ^ 32 := by decide
  rw [feBytes, leNat_bytesLE, feReduce_val h, Nat.mod_eq_of_lt ((Nat.mod_lt _ (by decide)).trans hp)]

/-- Equality of encodings is equality of field elements (R135). -/
theorem feEq_iff {a b : Limbs} (ha : carryok a) (hb : carryok b) : feEq a b = true ↔ toField a = toField b := by
  rw [toField, toField, ZMod.natCast_eq_natCast_iff', ← feReduce_val ha, ← feReduce_val hb, feEq, beq_iff_eq]
  refine ⟨fun h => ?_, fun h => by rw [feBytes, feBytes, h]⟩
  rw [feReduce_val ha, feReduce_val hb, ← leNat_feBytes ha, ← leNat_feBytes hb, h]

/-! ## Masks (R130) -/

theorem mask64_true_and (a : U64) : mask64 true &&& a = a := BitVec.allOnes_and

theorem mask64_false_and (a : U64) : mask64 false &&& a = 0#64 := BitVec.zero_and

theorem selLimb_mask (a b : U64) (c : Bool) : selLimb (mask64 c) a b = if c then a else b := by
  have htrue : ~~~mask64 true = mask64 false := rfl
  have hfalse : ~~~mask64 false = mask64 true := rfl
  cases c
  · simp [selLimb, hfalse, mask64_true_and, mask64_false_and]
  · simp [selLimb, htrue, mask64_true_and, mask64_false_and]

theorem feSel_eq (a b : Limbs) (c : Bool) : feSel a b c = if c then a else b := by
  simp only [feSel, selLimb_mask]
  cases c <;> rfl

theorem feSwap_eq (u v : Limbs) (c : Bool) : feSwap u v c = if c then (v, u) else (u, v) := by
  have hxor (a b : U64) : b ^^^ (a ^^^ b) = a := by rw [BitVec.xor_comm a, ← BitVec.xor_assoc, BitVec.xor_self, BitVec.zero_xor]
  have hxor' (a b : U64) : a ^^^ (a ^^^ b) = b := by rw [← BitVec.xor_assoc, BitVec.xor_self, BitVec.zero_xor]
  cases c
  · simp [feSwap, feXor, swapMask, mask64_false_and]
  · simp [feSwap, feXor, swapMask, mask64_true_and, hxor, hxor']

/-! ## Limb vectors as names of field elements

`Rep l x`: the vector is in the domain and stands for `x`. The field functions map representatives to representatives. -/

/-- `l` is in the domain of every field function (R121) and represents `x`. -/
structure Rep (l : Limbs) (x : ZMod fieldP) : Prop where
  domain : inDomain l
  value : toField l = x

section Representatives

variable {a b : Limbs} {x y : ZMod fieldP}

theorem rep_self (h : inDomain a) : Rep a (toField a) := ⟨h, rfl⟩

theorem rep_of_tight (h : toField a = x ∧ tight a) : Rep a x := ⟨inDomain_of_tight h.2, h.1⟩

theorem Rep.carryok (h : Rep a x) : carryok a := carryok_of_loose h.domain.1

theorem rep_add (ha : Rep a x) (hb : Rep b y) : Rep (feAdd a b) (x + y) := by
  rw [← ha.value, ← hb.value]
  exact rep_of_tight (feAdd_exact ha.domain.1 hb.domain.1)

theorem rep_sub (ha : Rep a x) (hb : Rep b y) : Rep (feSub a b) (x - y) := by
  rw [← ha.value, ← hb.value]
  exact rep_of_tight (feSub_exact ha.domain.1 hb.domain.2)

theorem rep_neg (ha : Rep a x) : Rep (feNeg a) (-x) := by
  rw [← ha.value]
  exact rep_of_tight (feNeg_exact ha.domain.2)

theorem rep_mul (ha : Rep a x) (hb : Rep b y) : Rep (feMul a b) (x * y) := by
  rw [← ha.value, ← hb.value]
  exact rep_of_tight (feMul_exact ha.domain.1 hb.domain.1)

theorem rep_sqr (ha : Rep a x) : Rep (feSqr a) (x ^ 2) := by
  rw [← ha.value]
  exact rep_of_tight (feSqr_exact ha.domain.1)

theorem rep_sel (ha : Rep a x) (hb : Rep b y) (c : Bool) : Rep (feSel a b c) (if c then x else y) := by
  rw [feSel_eq]
  cases c
  · exact hb
  · exact ha

theorem rep_limbs {v : Nat} (h : v < 2 ^ 255) : Rep (limbs v) v := rep_of_tight ⟨toField_limbs h, tight_limbs v⟩

theorem rep_zero : Rep feZero 0 := ⟨by decide, by simp [toField, val, feZero]⟩

theorem rep_one : Rep feOne 1 := ⟨by decide, by simp [toField, val, feOne]⟩

theorem rep_d : Rep feD dField := rep_limbs (by decide)

theorem rep_d2 : Rep feD2 (2 * dField) := by
  have h : (curveD2 : ZMod fieldP) = 2 * dField := by
    rw [d2_defining, ZMod.natCast_mod, Nat.cast_mul, dField]
    rfl
  exact h ▸ rep_limbs (by decide)

/-- Comparing representatives compares what they represent (R135). -/
theorem feEq_rep (ha : Rep a x) (hb : Rep b y) : feEq a b = true ↔ x = y := by
  rw [feEq_iff ha.carryok hb.carryok, ha.value, hb.value]

end Representatives

/-! ## The square root of a ratio (R138, R139): what an accepted root satisfies -/

/-- `√−1` as a field element (R19). -/
def sqrtM1Field : ZMod fieldP := (sqrtM1 : ZMod fieldP)

theorem rep_sqrtM1 : Rep feSqrtM1 sqrtM1Field := rep_limbs (by decide)

theorem sqrtM1Field_sq : sqrtM1Field ^ 2 = -1 := by
  have h : ((sqrtM1 * sqrtM1 + 1 : Nat) : ZMod fieldP) = 0 := by
    rw [ZMod.natCast_eq_zero_iff]
    have := sqrtM1_defining
    unfold fieldP at *
    omega
  push_cast at h
  rw [sqrtM1Field]
  linear_combination h

theorem inDomain_mul {a b : Limbs} (ha : inDomain a) (hb : inDomain b) : inDomain (feMul a b) :=
  (rep_mul (rep_self ha) (rep_self hb)).domain

theorem inDomain_sqr {a : Limbs} (ha : inDomain a) : inDomain (feSqr a) := (rep_sqr (rep_self ha)).domain

theorem inDomain_sqrN : ∀ (n : Nat) {a : Limbs}, inDomain a → inDomain (feSqrN a n)
  | 0, _, ha => ha
  | n + 1, _, ha => inDomain_sqrN n (inDomain_sqr ha)

theorem inDomain_pow22523 {x : Limbs} (hx : inDomain x) : inDomain (fePow22523 x) := by
  unfold fePow22523
  extract_lets x2 x9 x11 x5_0 x10_0 x20_0 x40_0 x50_0 x100_0 x200_0 x250_0
  have h2 : inDomain x2 := inDomain_sqr hx
  have h9 : inDomain x9 := inDomain_mul hx (inDomain_sqrN 2 h2)
  have h11 : inDomain x11 := inDomain_mul h2 h9
  have h5 : inDomain x5_0 := inDomain_mul h9 (inDomain_sqr h11)
  have h10 : inDomain x10_0 := inDomain_mul (inDomain_sqrN 5 h5) h5
  have h20 : inDomain x20_0 := inDomain_mul (inDomain_sqrN 10 h10) h10
  have h40 : inDomain x40_0 := inDomain_mul (inDomain_sqrN 20 h20) h20
  have h50 : inDomain x50_0 := inDomain_mul (inDomain_sqrN 10 h40) h10
  have h100 : inDomain x100_0 := inDomain_mul (inDomain_sqrN 50 h50) h50
  have h200 : inDomain x200_0 := inDomain_mul (inDomain_sqrN 100 h100) h100
  have h250 : inDomain x250_0 := inDomain_mul (inDomain_sqrN 50 h200) h50
  exact inDomain_mul (inDomain_sqrN 2 h250) hx

theorem feAbs_rep {a : Limbs} {x : ZMod fieldP} (ha : Rep a x) : ∃ z, Rep (feAbs a) z ∧ z ^ 2 = x ^ 2 := by
  refine ⟨_, rep_sel (rep_neg ha) ha _, ?_⟩
  split
  · exact neg_sq x
  · rfl

/-- A root reported as found squares to the ratio (R139). `check` is `v·r²`: if it is `u`, `r` is a root; if it is `−u`, `√−1·r` is.
If it is `u` and `−√−1·u` at once, then `u` is 0 and both are. -/
theorem feSqrtRatio_found {u v : Limbs} {x y : ZMod fieldP} (hu : Rep u x) (hv : Rep v y) (h : (feSqrtRatio u v).2 = true) :
    ∃ z, Rep (feSqrtRatio u v).1 z ∧ z ^ 2 * y = x := by
  generalize hres : feSqrtRatio u v = res at h ⊢
  unfold feSqrtRatio at hres
  extract_lets v2 uv3 uv7 r check uneg correct flipped flippedI rprime root at hres
  subst hres
  have h3 : inDomain uv3 := inDomain_mul hu.domain (inDomain_mul (inDomain_sqr hv.domain) hv.domain)
  have hr : Rep r (toField r) := rep_self
    (inDomain_mul h3 (inDomain_pow22523 (inDomain_mul h3 (inDomain_sqr (inDomain_sqr hv.domain)))))
  have hcheck : Rep check (y * toField r ^ 2) := rep_mul hv (rep_sqr hr)
  have hcorrect : correct = true ↔ y * toField r ^ 2 = x := feEq_rep hcheck hu
  have hflipped : flipped = true ↔ y * toField r ^ 2 = -x := feEq_rep hcheck (rep_neg hu)
  have hflippedI : flippedI = true ↔ y * toField r ^ 2 = -x * sqrtM1Field := feEq_rep hcheck (rep_mul (rep_neg hu) rep_sqrtM1)
  obtain ⟨z, hz, hsq⟩ := feAbs_rep (rep_sel (rep_mul hr rep_sqrtM1) hr (flipped || flippedI))
  refine ⟨z, hz, ?_⟩
  rw [hsq]
  have hi := sqrtM1Field_sq
  have hfound : correct = true ∨ flipped = true := by simpa using h
  by_cases hflag : (flipped || flippedI) = true
  · rw [if_pos hflag]
    rcases hfound with hc | hf
    · rw [hcorrect] at hc
      rw [Bool.or_eq_true, hflipped, hflippedI] at hflag
      rcases hflag with hf | hf
      · linear_combination y * toField r ^ 2 * hi - hf
      · linear_combination y * toField r ^ 2 * hi - hc + (1 - sqrtM1Field) * (hc - hf) - x * hi
    · rw [hflipped] at hf
      linear_combination y * toField r ^ 2 * hi - hf
  · rw [if_neg hflag]
    have hc := hfound.resolve_right fun hf => hflag (by simp [hf])
    rw [hcorrect] at hc
    linear_combination hc

end Sys2Proof.Proofs

/-! Points on the curve (R31) through the adder, the doubler, the tables and the scalar multiplications (42_coords.md, 43_tables.md,
44_point.md): O56 and O25. Each point type has its own reading of "on the curve", and each function keeps it. No denominator is ever
inverted, so the degenerate points are covered too. -/

namespace Sys2Proof.Proofs

open Sys2Proof.Machine Sys2Proof.Laws

/-! ## The two predicates on points (R269, R273) -/

theorem ptOnCurve_iff {q : P3} (h : q.inDomain) : ptOnCurve q = true ↔ q.onCurve := by
  obtain ⟨hX, hY, hZ, hT⟩ := h
  have hlhs := rep_sub (rep_sqr (rep_self hY)) (rep_sqr (rep_self hX))
  have hrhs := rep_add (rep_mul rep_d (rep_sqr (rep_self hT))) (rep_sqr (rep_self hZ))
  have hxy := rep_mul (rep_self hX) (rep_self hY)
  have htz := rep_mul (rep_self hT) (rep_self hZ)
  simp only [ptOnCurve, Bool.and_eq_true, feEq_rep hlhs hrhs, feEq_rep hxy htz, P3.onCurve]
  refine and_congr_left fun _ => ⟨fun h => ?_, fun h => ?_⟩ <;> linear_combination h

theorem ptEq_iff {u v : P3} (hu : u.inDomain) (hv : v.inDomain) :
    ptEq u v = true ↔ toField v.X * toField u.Z = toField u.X * toField v.Z ∧
      toField v.Y * toField u.Z = toField u.Y * toField v.Z := by
  obtain ⟨uX, uY, uZ, -⟩ := hu
  obtain ⟨vX, vY, vZ, -⟩ := hv
  simp only [ptEq, Bool.and_eq_true,
    feEq_rep (rep_mul (rep_self vX) (rep_self uZ)) (rep_mul (rep_self uX) (rep_self vZ)),
    feEq_rep (rep_mul (rep_self vY) (rep_self uZ)) (rep_mul (rep_self uY) (rep_self vZ))]

/-- Settles O56: on the domain `fe_eq` compares field elements, so each check is its equations. -/
theorem pointPredicates : Obligations.PointPredicates := by
  unfold Obligations.PointPredicates
  exact ⟨fun _ => ptOnCurve_iff, fun _ _ => ptEq_iff⟩

/-! ## The curve in the coordinates of each point type -/

section Equations

variable {R : Type} [CommRing R] (d : R)

/-- Both curve equations, in extended coordinates (R31). -/
def ExtendedEq (x y z t : R) : Prop := -x ^ 2 + y ^ 2 = z ^ 2 + d * t ^ 2 ∧ x * y = t * z

/-- The curve equation of a completed point, `x = X/Z` and `y = Y/T` (R200). -/
def CompletedEq (x y z t : R) : Prop := -x ^ 2 * t ^ 2 + y ^ 2 * z ^ 2 = z ^ 2 * t ^ 2 + d * x ^ 2 * y ^ 2

/-- The curve equation of a projective point, `x = X/Z` and `y = Y/Z` (R200). -/
def ProjectiveEq (x y z : R) : Prop := (y ^ 2 - x ^ 2) * z ^ 2 = z ^ 4 + d * x ^ 2 * y ^ 2

variable {d}

theorem extendedEq_of_completed {x y z t : R} (h : CompletedEq d x y z t) : ExtendedEq d (x * t) (y * z) (z * t) (x * y) := by
  unfold CompletedEq at h
  exact ⟨by linear_combination h, by ring⟩

theorem projectiveEq_of_completed {x y z t : R} (h : CompletedEq d x y z t) : ProjectiveEq d (x * t) (y * z) (z * t) := by
  unfold CompletedEq at h
  unfold ProjectiveEq
  linear_combination z ^ 2 * t ^ 2 * h

theorem projectiveEq_of_extended {x y z t : R} (h : ExtendedEq d x y z t) : ProjectiveEq d x y z := by
  obtain ⟨h1, h2⟩ := h
  unfold ProjectiveEq
  linear_combination z ^ 2 * h1 - d * (x * y + t * z) * h2

/-- The unified addition law, multiplied out (R207). With `S = x² + y²` of each point, both sides are
polynomials in `z`, `t` and `S`. -/
theorem completedEq_add {x1 y1 z1 t1 x2 y2 z2 t2 : R} (h1 : ExtendedEq d x1 y1 z1 t1) (h2 : ExtendedEq d x2 y2 z2 t2) :
    CompletedEq d ((y1 + x1) * (y2 + x2) - (y1 - x1) * (y2 - x2)) ((y1 + x1) * (y2 + x2) + (y1 - x1) * (y2 - x2))
      (2 * z1 * z2 + t1 * (2 * d * t2)) (2 * z1 * z2 - t1 * (2 * d * t2)) := by
  obtain ⟨c1, m1⟩ := h1
  obtain ⟨c2, m2⟩ := h2
  have hsq1 : (x1 ^ 2 + y1 ^ 2) ^ 2 = (z1 ^ 2 + d * t1 ^ 2) ^ 2 + 4 * t1 ^ 2 * z1 ^ 2 := by
    linear_combination (-x1 ^ 2 + y1 ^ 2 + z1 ^ 2 + d * t1 ^ 2) * c1 + 4 * (x1 * y1 + t1 * z1) * m1
  have hsq2 : (x2 ^ 2 + y2 ^ 2) ^ 2 = (z2 ^ 2 + d * t2 ^ 2) ^ 2 + 4 * t2 ^ 2 * z2 ^ 2 := by
    linear_combination (-x2 ^ 2 + y2 ^ 2 + z2 ^ 2 + d * t2 ^ 2) * c2 + 4 * (x2 * y2 + t2 * z2) * m2
  have hdiff : (y1 * y2 + x1 * x2) ^ 2 - (x1 * y2 + y1 * x2) ^ 2 = (z1 ^ 2 + d * t1 ^ 2) * (z2 ^ 2 + d * t2 ^ 2) := by
    linear_combination (-x2 ^ 2 + y2 ^ 2) * c1 + (z1 ^ 2 + d * t1 ^ 2) * c2
  have hsum : (y1 * y2 + x1 * x2) ^ 2 + (x1 * y2 + y1 * x2) ^ 2 =
      (x1 ^ 2 + y1 ^ 2) * (x2 ^ 2 + y2 ^ 2) + 4 * t1 * z1 * t2 * z2 := by
    linear_combination 4 * x2 * y2 * m1 + 4 * t1 * z1 * m2
  have hprod : (x1 * y2 + y1 * x2) * (y1 * y2 + x1 * x2) = t1 * z1 * (x2 ^ 2 + y2 ^ 2) + t2 * z2 * (x1 ^ 2 + y1 ^ 2) := by
    linear_combination (x2 ^ 2 + y2 ^ 2) * m1 + (x1 ^ 2 + y1 ^ 2) * m2
  unfold CompletedEq
  generalize hU : x1 * y2 + y1 * x2 = U at *
  generalize hV : y1 * y2 + x1 * x2 = V at *
  have hX : (y1 + x1) * (y2 + x2) - (y1 - x1) * (y2 - x2) = 2 * U := by rw [← hU]; ring
  have hY : (y1 + x1) * (y2 + x2) + (y1 - x1) * (y2 - x2) = 2 * V := by rw [← hV]; ring
  rw [hX, hY]
  generalize x1 ^ 2 + y1 ^ 2 = S1 at *
  generalize x2 ^ 2 + y2 ^ 2 = S2 at *
  linear_combination 16 * ((z1 ^ 2 * z2 ^ 2 + d ^ 2 * t1 ^ 2 * t2 ^ 2) * hdiff + 2 * d * z1 * z2 * t1 * t2 * hsum -
    d * (U * V + t1 * z1 * S2 + t2 * z2 * S1) * hprod - d * t1 ^ 2 * z1 ^ 2 * hsq2 - d * t2 ^ 2 * z2 ^ 2 * hsq1)

/-- The doubling law, multiplied out (R211). -/
theorem completedEq_double {x y z : R} (h : ProjectiveEq d x y z) :
    CompletedEq d (2 * x * y) (y ^ 2 + x ^ 2) (y ^ 2 - x ^ 2) (2 * z ^ 2 - (y ^ 2 - x ^ 2)) := by
  unfold ProjectiveEq at h
  unfold CompletedEq
  linear_combination 4 * (y ^ 2 + x ^ 2) ^ 2 * h

end Equations

/-! ## Point values on the curve and in the domain -/

/-- A P3 value of the invariant: in the domain, both curve equations. -/
def GoodP (q : P3) : Prop := q.inDomain ∧ q.onCurve

/-- A P2 value on the curve, in the domain. -/
def GoodJ (q : P2) : Prop := q.inDomain ∧ ProjectiveEq dField (toField q.X) (toField q.Y) (toField q.Z)

/-- A P1xP1 value on the curve, in the domain. -/
def GoodC (q : P1xP1) : Prop :=
  q.inDomain ∧ CompletedEq dField (toField q.X) (toField q.Y) (toField q.Z) (toField q.T)

/-- A projCached value that caches a point of the curve (R200). -/
def GoodQ (q : ProjCached) : Prop :=
  ∃ x y z t, ExtendedEq dField x y z t ∧ Rep q.YpX (y + x) ∧ Rep q.YmX (y - x) ∧ Rep q.Z z ∧ Rep q.T2d (2 * dField * t)

/-- An affineCached value that caches a point of the curve (R200). -/
def GoodA (q : AffineCached) : Prop :=
  ∃ x y t, ExtendedEq dField x y 1 t ∧ Rep q.YpX (y + x) ∧ Rep q.YmX (y - x) ∧ Rep q.T2d (2 * dField * t)

section Intro

variable {x y z t : ZMod fieldP}

theorem goodP_intro {q : P3} (hX : Rep q.X x) (hY : Rep q.Y y) (hZ : Rep q.Z z) (hT : Rep q.T t) (h : ExtendedEq dField x y z t) :
    GoodP q := by
  refine ⟨⟨hX.domain, hY.domain, hZ.domain, hT.domain⟩, ?_⟩
  unfold P3.onCurve
  rw [hX.value, hY.value, hZ.value, hT.value]
  exact h

theorem goodJ_intro {q : P2} (hX : Rep q.X x) (hY : Rep q.Y y) (hZ : Rep q.Z z) (h : ProjectiveEq dField x y z) : GoodJ q := by
  refine ⟨⟨hX.domain, hY.domain, hZ.domain⟩, ?_⟩
  rwa [hX.value, hY.value, hZ.value]

theorem goodC_intro {q : P1xP1} (hX : Rep q.X x) (hY : Rep q.Y y) (hZ : Rep q.Z z) (hT : Rep q.T t)
    (h : CompletedEq dField x y z t) : GoodC q := by
  refine ⟨⟨hX.domain, hY.domain, hZ.domain, hT.domain⟩, ?_⟩
  rwa [hX.value, hY.value, hZ.value, hT.value]

end Intro

/-! ## Conversions (R202 to R205) -/

theorem goodP_p3FromC {c : P1xP1} (h : GoodC c) : GoodP (p3FromC c) := by
  obtain ⟨⟨hX, hY, hZ, hT⟩, hc⟩ := h
  exact goodP_intro (rep_mul (rep_self hX) (rep_self hT)) (rep_mul (rep_self hY) (rep_self hZ))
    (rep_mul (rep_self hZ) (rep_self hT)) (rep_mul (rep_self hX) (rep_self hY)) (extendedEq_of_completed hc)

theorem goodJ_p2FromC {c : P1xP1} (h : GoodC c) : GoodJ (p2FromC c) := by
  obtain ⟨⟨hX, hY, hZ, hT⟩, hc⟩ := h
  exact goodJ_intro (rep_mul (rep_self hX) (rep_self hT)) (rep_mul (rep_self hY) (rep_self hZ))
    (rep_mul (rep_self hZ) (rep_self hT)) (projectiveEq_of_completed hc)

theorem goodJ_p2FromP3 {p : P3} (h : GoodP p) : GoodJ (p2FromP3 p) := by
  obtain ⟨⟨hX, hY, hZ, -⟩, hc⟩ := h
  exact ⟨⟨hX, hY, hZ⟩, projectiveEq_of_extended hc⟩

theorem goodQ_qFromP3 {p : P3} (h : GoodP p) : GoodQ (qFromP3 p) := by
  obtain ⟨⟨hX, hY, hZ, hT⟩, hc⟩ := h
  have hT2d := rep_mul (rep_self hT) rep_d2
  rw [mul_comm] at hT2d
  exact ⟨_, _, _, _, hc, rep_add (rep_self hY) (rep_self hX), rep_sub (rep_self hY) (rep_self hX), rep_self hZ, hT2d⟩

/-! ## The adder and the doubler (R207 to R211) -/

theorem goodC_ptCadd {p : P3} {q : ProjCached} (hp : GoodP p) (hq : GoodQ q) : GoodC (ptCadd p q) := by
  obtain ⟨⟨hX, hY, hZ, hT⟩, hc⟩ := hp
  obtain ⟨x, y, z, t, hq, qP, qM, qZ, qT⟩ := hq
  have hpp := rep_mul (rep_add (rep_self hY) (rep_self hX)) qP
  have hmm := rep_mul (rep_sub (rep_self hY) (rep_self hX)) qM
  have htt := rep_mul (rep_self hT) qT
  have hzz := rep_mul (rep_self hZ) qZ
  have hzz2 := rep_add hzz hzz
  rw [← two_mul, ← mul_assoc] at hzz2
  exact goodC_intro (rep_sub hpp hmm) (rep_add hpp hmm) (rep_add hzz2 htt) (rep_sub hzz2 htt) (completedEq_add hc hq)

/-- A cached point read with YpX and YmX exchanged and T2d negated is the negative's cache (R208, R234). -/
theorem GoodQ.neg_view {q : ProjCached} (h : GoodQ q) :
    ∃ x y z t, ExtendedEq dField x y z t ∧ Rep q.YmX (y + x) ∧ Rep q.YpX (y - x) ∧ Rep q.Z z ∧ Rep q.T2d (-(2 * dField * t)) := by
  obtain ⟨x, y, z, t, ⟨h1, h2⟩, qP, qM, qZ, qT⟩ := h
  refine ⟨-x, y, z, -t, ⟨by linear_combination h1, by linear_combination -h2⟩, ?_, ?_, qZ, ?_⟩
  · rwa [← sub_eq_add_neg]
  · rwa [sub_neg_eq_add]
  · rwa [mul_neg, neg_neg]

theorem GoodA.neg_view {q : AffineCached} (h : GoodA q) :
    ∃ x y t, ExtendedEq dField x y 1 t ∧ Rep q.YmX (y + x) ∧ Rep q.YpX (y - x) ∧ Rep q.T2d (-(2 * dField * t)) := by
  obtain ⟨x, y, t, ⟨h1, h2⟩, qP, qM, qT⟩ := h
  refine ⟨-x, y, -t, ⟨by linear_combination h1, by linear_combination -h2⟩, ?_, ?_, ?_⟩
  · rwa [← sub_eq_add_neg]
  · rwa [sub_neg_eq_add]
  · rwa [mul_neg, neg_neg]

theorem goodC_ptCsub {p : P3} {q : ProjCached} (hp : GoodP p) (hq : GoodQ q) : GoodC (ptCsub p q) := by
  obtain ⟨⟨hX, hY, hZ, hT⟩, hc⟩ := hp
  obtain ⟨x, y, z, t, hq, qM, qP, qZ, qT⟩ := hq.neg_view
  have hpp := rep_mul (rep_add (rep_self hY) (rep_self hX)) qM
  have hmm := rep_mul (rep_sub (rep_self hY) (rep_self hX)) qP
  have htt := rep_mul (rep_self hT) qT
  have hzz := rep_mul (rep_self hZ) qZ
  have hzz2 := rep_add hzz hzz
  have hZ' := rep_sub hzz2 htt
  have hT' := rep_add hzz2 htt
  rw [← two_mul, ← mul_assoc, mul_neg, sub_neg_eq_add] at hZ'
  rw [← two_mul, ← mul_assoc, mul_neg, ← sub_eq_add_neg] at hT'
  exact goodC_intro (rep_sub hpp hmm) (rep_add hpp hmm) hZ' hT' (completedEq_add hc hq)

theorem goodC_ptCadda {p : P3} {q : AffineCached} (hp : GoodP p) (hq : GoodA q) : GoodC (ptCadda p q) := by
  obtain ⟨⟨hX, hY, hZ, hT⟩, hc⟩ := hp
  obtain ⟨x, y, t, hq, qP, qM, qT⟩ := hq
  have hpp := rep_mul (rep_add (rep_self hY) (rep_self hX)) qP
  have hmm := rep_mul (rep_sub (rep_self hY) (rep_self hX)) qM
  have htt := rep_mul (rep_self hT) qT
  have hz2 := rep_add (rep_self hZ) (rep_self hZ)
  rw [← two_mul, ← mul_one (2 * _)] at hz2
  exact goodC_intro (rep_sub hpp hmm) (rep_add hpp hmm) (rep_add hz2 htt) (rep_sub hz2 htt) (completedEq_add hc hq)

theorem goodC_ptCsuba {p : P3} {q : AffineCached} (hp : GoodP p) (hq : GoodA q) : GoodC (ptCsuba p q) := by
  obtain ⟨⟨hX, hY, hZ, hT⟩, hc⟩ := hp
  obtain ⟨x, y, t, hq, qM, qP, qT⟩ := hq.neg_view
  have hpp := rep_mul (rep_add (rep_self hY) (rep_self hX)) qM
  have hmm := rep_mul (rep_sub (rep_self hY) (rep_self hX)) qP
  have htt := rep_mul (rep_self hT) qT
  have hz2 := rep_add (rep_self hZ) (rep_self hZ)
  have hZ' := rep_sub hz2 htt
  have hT' := rep_add hz2 htt
  rw [← two_mul, ← mul_one (2 * _), mul_neg, sub_neg_eq_add] at hZ'
  rw [← two_mul, ← mul_one (2 * _), mul_neg, ← sub_eq_add_neg] at hT'
  exact goodC_intro (rep_sub hpp hmm) (rep_add hpp hmm) hZ' hT' (completedEq_add hc hq)

theorem goodC_ptCdbl {j : P2} (h : GoodJ j) : GoodC (ptCdbl j) := by
  obtain ⟨⟨hX, hY, hZ⟩, hc⟩ := h
  have hxx := rep_sqr (rep_self hX)
  have hyy := rep_sqr (rep_self hY)
  have hzz := rep_sqr (rep_self hZ)
  have hcY := rep_add hyy hxx
  have hcZ := rep_sub hyy hxx
  have hcX := rep_sub (rep_sqr (rep_add (rep_self hX) (rep_self hY))) hcY
  have hcT := rep_sub (rep_add hzz hzz) hcZ
  rw [show (toField j.X + toField j.Y) ^ 2 - (toField j.Y ^ 2 + toField j.X ^ 2) = 2 * toField j.X * toField j.Y by ring] at hcX
  rw [← two_mul] at hcT
  exact goodC_intro hcX hcY hcZ hcT (completedEq_double hc)

theorem goodJ_double {j : P2} (h : GoodJ j) : GoodJ (p2FromC (ptCdbl j)) := goodJ_p2FromC (goodC_ptCdbl h)

theorem goodP_double {p : P3} (h : GoodP p) : GoodP (p3FromC (ptCdbl (p2FromP3 p))) :=
  goodP_p3FromC (goodC_ptCdbl (goodJ_p2FromP3 h))

/-! ## Constants (R47 to R49) -/

theorem extendedEq_identity : ExtendedEq dField 0 1 1 0 := ⟨by ring, by ring⟩

theorem goodP_ident : GoodP ptIdent := goodP_intro rep_zero rep_one rep_one rep_zero extendedEq_identity

theorem goodJ_ident : GoodJ jIdent := goodJ_p2FromP3 goodP_ident

theorem rep_two_d_zero : Rep feZero (2 * dField * 0) := by
  rw [mul_zero]
  exact rep_zero

theorem goodQ_ident : GoodQ qIdent :=
  ⟨0, 1, 1, 0, extendedEq_identity, by rw [add_zero]; exact rep_one, by rw [sub_zero]; exact rep_one, rep_one, rep_two_d_zero⟩

theorem goodA_ident : GoodA aIdent :=
  ⟨0, 1, 0, extendedEq_identity, by rw [add_zero]; exact rep_one, by rw [sub_zero]; exact rep_one, rep_two_d_zero⟩

/-- The generator, by the equation and the product R20 defines it with. -/
theorem goodP_gen : GoodP genPoint := by
  obtain ⟨-, hcurve, hT, -⟩ := base_defining
  have hc := (ZMod.natCast_eq_natCast_iff' _ _ fieldP).2 hcurve
  have hle : baseX ^ 2 ≤ baseY ^ 2 + fieldP * fieldP := by decide +kernel
  rw [Nat.cast_sub hle] at hc
  push_cast at hc
  rw [ZMod.natCast_self, mul_zero, add_zero] at hc
  have ht := rep_limbs (v := baseT) (by decide)
  rw [hT, ZMod.natCast_mod, Nat.cast_mul, ← hT] at ht
  refine goodP_intro (rep_limbs (by decide)) (rep_limbs (by decide)) rep_one ht ⟨?_, by ring⟩
  rw [dField]
  linear_combination hc

/-- One half, mod p. -/
def half : ZMod fieldP := (((fieldP + 1) / 2 : Nat) : ZMod fieldP)

theorem two_mul_half : 2 * half = 1 := by
  have h : 2 * ((fieldP + 1) / 2) = fieldP + 1 := by decide
  have hc := congrArg (Nat.cast (R := ZMod fieldP)) h
  push_cast at hc
  rwa [ZMod.natCast_self, zero_add] at hc

/-- A ROM entry that passes the checks of Laws/Rom.lean caches a point of the curve: with `u = 2x` and `v = 2y`, `x = u/2` and
`y = v/2`. -/
theorem goodA_of_entryOk {e : AffineCached} (h : entryOk e = true) : GoodA e := by
  simp only [entryOk, Bool.and_eq_true, beq_iff_eq, decide_eq_true_eq] at h
  obtain ⟨⟨⟨⟨⟨⟨⟨lP, lM⟩, lT⟩, -⟩, hM⟩, -⟩, hT⟩, hcurve⟩ := h
  have rP : Rep e.YpX (toField e.YpX) := rep_self (lP ▸ inDomain_of_tight (tight_limbs _))
  have rM : Rep e.YmX (toField e.YmX) := rep_self (lM ▸ inDomain_of_tight (tight_limbs _))
  have rT : Rep e.T2d (toField e.T2d) := rep_self (lT ▸ inDomain_of_tight (tight_limbs _))
  have hu : (entryU e : ZMod fieldP) = toField e.YpX - toField e.YmX := by
    rw [entryU, ZMod.natCast_mod, Nat.cast_sub (by omega), Nat.cast_add, ZMod.natCast_self, add_zero]
    rfl
  have hv : (entryV e : ZMod fieldP) = toField e.YpX + toField e.YmX := by
    rw [entryV, ZMod.natCast_mod, Nat.cast_add]
    rfl
  have hT' := (ZMod.natCast_eq_natCast_iff' _ _ fieldP).2 hT
  have hc := (ZMod.natCast_eq_natCast_iff' _ _ fieldP).2 hcurve
  push_cast at hT' hc
  rw [hu, hv, ← dField, ← toField] at hT'
  rw [hu, hv, ← dField] at hc
  have h2 := two_mul_half
  have h4 : 4 * half ^ 2 = 1 := by linear_combination (2 * half + 1) * h2
  generalize toField e.YpX = a at *
  generalize toField e.YmX = b at *
  generalize toField e.T2d = c at *
  refine ⟨half * (a - b), half * (a + b), half ^ 2 * (a - b) * (a + b), ⟨?_, by ring⟩, ?_, ?_, ?_⟩
  · linear_combination half ^ 4 * hc + (4 * half ^ 2 + 1 - half ^ 2 * ((a + b) ^ 2 - (a - b) ^ 2)) * h4
  · rwa [show half * (a + b) + half * (a - b) = a by linear_combination a * h2]
  · rwa [show half * (a + b) - half * (a - b) = b by linear_combination b * h2]
  · rwa [show 2 * dField * (half ^ 2 * (a - b) * (a + b)) = c by
      linear_combination (half * dField * (a - b) * (a + b) + c) * h2 - half * hT']

theorem goodA_BPT {row : AffineTable} (hrow : row ∈ BPT.toList) : ∀ e ∈ row.toList, GoodA e := by
  obtain ⟨i, hi, rfl⟩ := List.getElem_of_mem hrow
  intro e he
  obtain ⟨j, hj, rfl⟩ := List.getElem_of_mem he
  rw [Vector.length_toList] at hi hj
  rw [Vector.getElem_toList]
  exact goodA_of_entryOk (by simpa using rom_rows_valid ⟨i, hi⟩ ⟨j, hj⟩)

theorem goodA_BNT {part : AffineTable} (hpart : part ∈ BNT.toList) : ∀ e ∈ part.toList, GoodA e := by
  obtain ⟨i, hi, rfl⟩ := List.getElem_of_mem hpart
  intro e he
  obtain ⟨j, hj, rfl⟩ := List.getElem_of_mem he
  rw [Vector.length_toList] at hi hj
  rw [Vector.getElem_toList]
  exact goodA_of_entryOk (by simpa using rom_naf_valid ⟨i, hi⟩ ⟨j, hj⟩)

/-! ## Building and selecting (R231 to R237) -/

theorem forall_mem_tableOf {α : Type} {p : α → Prop} {first : α} {next : α → α} (h0 : p first) (hn : ∀ e, p e → p (next e)) :
    ∀ e ∈ (tableOf first next).toList, p e := by
  have h1 := hn _ h0
  have h2 := hn _ h1
  have h3 := hn _ h2
  have h4 := hn _ h3
  have h5 := hn _ h4
  have h6 := hn _ h5
  simp [tableOf, h0, h1, h2, h3, h4, h5, h6, hn _ h6]

theorem goodQ_ltBuild {p : P3} (hp : GoodP p) : ∀ e ∈ (ltBuild p).toList, GoodQ e :=
  forall_mem_tableOf (goodQ_qFromP3 hp) fun _ he => goodQ_qFromP3 (goodP_p3FromC (goodC_ptCadd hp he))

theorem goodQ_ntBuild {p : P3} (hp : GoodP p) : ∀ e ∈ (ntBuild p).toList, GoodQ e :=
  forall_mem_tableOf (goodQ_qFromP3 hp) fun _ he =>
    goodQ_qFromP3 (goodP_p3FromC (goodC_ptCadd (goodP_p3FromC (goodC_ptCadd hp (goodQ_qFromP3 hp))) he))

/-- A scan whose selection returns one of its operands returns the default or an entry. -/
theorem selectScan_mem {α : Type} {p : α → Prop} {sel : α → α → Bool → α} (hsel : ∀ a b c, sel a b c = if c then a else b)
    (k : Nat) : ∀ (l : List α) (j : Nat) (dest : α), p dest → (∀ e ∈ l, p e) → p (selectScan sel k l j dest)
  | [], _, _, hd, _ => hd
  | e :: es, j, dest, hd, hl => by
    refine selectScan_mem hsel k es (j + 1) _ ?_ fun x hx => hl x (List.mem_cons_of_mem e hx)
    rw [hsel]
    split
    · exact hl e List.mem_cons_self
    · exact hd

theorem qSel_eq (a b : ProjCached) (c : Bool) : qSel a b c = if c then a else b := by
  simp only [qSel, feSel_eq]
  cases c <;> rfl

theorem aSel_eq (a b : AffineCached) (c : Bool) : aSel a b c = if c then a else b := by
  simp only [aSel, feSel_eq]
  cases c <;> rfl

theorem qCneg_eq (q : ProjCached) (c : Bool) : qCneg q c = if c then negCached q else q := by
  simp only [qCneg, feSwap_eq, feCneg, feSel_eq]
  cases c <;> rfl

theorem aCneg_eq (q : AffineCached) (c : Bool) : aCneg q c = if c then negAffine q else q := by
  simp only [aCneg, feSwap_eq, feCneg, feSel_eq]
  cases c <;> rfl

theorem goodQ_negCached {q : ProjCached} (h : GoodQ q) : GoodQ (negCached q) := by
  obtain ⟨x, y, z, t, hc, hM, hP, hZ, hT⟩ := h.neg_view
  have hT' := rep_neg hT
  rw [neg_neg] at hT'
  exact ⟨x, y, z, t, hc, hM, hP, hZ, hT'⟩

theorem goodA_negAffine {q : AffineCached} (h : GoodA q) : GoodA (negAffine q) := by
  obtain ⟨x, y, t, hc, hM, hP, hT⟩ := h.neg_view
  have hT' := rep_neg hT
  rw [neg_neg] at hT'
  exact ⟨x, y, t, hc, hM, hP, hT'⟩

theorem goodQ_ltSel {t : ProjTable} (ht : ∀ e ∈ t.toList, GoodQ e) (x : Byte) : GoodQ (ltSel t x) := by
  have h := selectScan_mem qSel_eq (digitAbs x) t.toList 1 qIdent goodQ_ident ht
  rw [ltSel, qCneg_eq]
  split
  · exact goodQ_negCached h
  · exact h

theorem goodA_atSel {t : AffineTable} (ht : ∀ e ∈ t.toList, GoodA e) (x : Byte) : GoodA (atSel t x) := by
  have h := selectScan_mem aSel_eq (digitAbs x) t.toList 1 aIdent goodA_ident ht
  rw [atSel, aCneg_eq]
  split
  · exact goodA_negAffine h
  · exact h

/-- A list entry, or the default past its end. -/
theorem getD_of_forall {α : Type} {p : α → Prop} {l : List α} {d : α} (hl : ∀ e ∈ l, p e) (hd : p d) (i : Nat) :
    p (l.getD i d) := by
  by_cases hi : i < l.length
  · rw [List.getD_eq_getElem l d hi]
    exact hl _ (List.getElem_mem hi)
  · rwa [List.getD_eq_default l d (by omega)]

theorem goodQ_ntSel {t : ProjTable} (ht : ∀ e ∈ t.toList, GoodQ e) (m : Nat) : GoodQ (ntSel t m) :=
  getD_of_forall ht goodQ_ident _

theorem goodA_bntSel (m : Nat) : GoodA (bntSel m) := by
  unfold bntSel
  split
  · next part hpart => exact getD_of_forall (goodA_BNT (List.mem_of_getElem? hpart)) goodA_ident _
  · exact goodA_ident

/-! ## Loops (R271, R275 to R280)

The loops of the composite commands are one loop with different steps. The induction is over that loop, whose step is a variable:
unfolding a concrete one would have the kernel compare accumulators limb by limb. -/

/-- A loop over positions `n−1` down to 0, then what is done with the accumulator at the end. -/
def downLoop {α β : Type} (last : α → β) (step : Nat → α → α) : Nat → α → β
  | 0, v => last v
  | n + 1, v => downLoop last step n (step n v)

/-- The same over the rows of a table, counted upward from `k`. -/
def rowLoop {ρ α : Type} (step : ρ → Nat → α → α) : List ρ → Nat → α → α
  | [], _, v => v
  | row :: rows, k, v => rowLoop step rows (k + 1) (step row k v)

/-- One position of R271. -/
def mullStep (q : ProjCached) (n : Nat) (acc : P3) : P3 :=
  if ell.testBit n then p3FromC (ptCadd (p3FromC (ptCdbl (p2FromP3 acc))) q) else p3FromC (ptCdbl (p2FromP3 acc))

/-- One position of R275. -/
def smulStep (t : ProjTable) (d : List Int) (n : Nat) (v : P3) : P3 :=
  p3FromC (ptCadd (ptMul16 v) (ltSel t (digitByte (digitAt d n))))

/-- One row of R277. -/
def bmulStep (d : List Int) (odd : Nat) (row : AffineTable) (k : Nat) (v : P3) : P3 :=
  p3FromC (ptCadda v (atSel row (digitByte (digitAt d (2 * k + odd)))))

/-- One position of R279: times 16, then every pair's lookup. -/
def msmStep (pairs : List (ProjTable × List Int)) (n : Nat) (v : P3) : P3 := msmAdd pairs n (ptMul16 v)

/-- One position of R278 and R280 above the last. -/
def dblAddStep (add : Nat → P1xP1 → P1xP1) (i : Nat) (j : P2) : P2 := p2FromC (add (i + 1) (ptCdbl j))

theorem mullLoop_eq (q : ProjCached) : mullLoop q = downLoop id (mullStep q) := by
  delta mullLoop downLoop
  rfl

theorem smulLoop_eq (t : ProjTable) (d : List Int) : smulLoop t d = downLoop id (smulStep t d) := by
  delta smulLoop downLoop
  rfl

theorem bmulLoop_eq (d : List Int) (odd : Nat) : bmulLoop d odd = rowLoop (bmulStep d odd) := by
  delta bmulLoop rowLoop
  rfl

theorem msmLoop_eq (pairs : List (ProjTable × List Int)) : msmLoop pairs = downLoop id (msmStep pairs) := by
  delta msmLoop downLoop
  rfl

theorem dblAddLoop_eq (add : Nat → P1xP1 → P1xP1) :
    dblAddLoop add = downLoop (fun j => p3FromC (add 0 (ptCdbl j))) (dblAddStep add) := by
  delta dblAddLoop downLoop
  rfl

theorem downLoop_keeps {α β : Type} {p : α → Prop} {q : β → Prop} {last : α → β} {step : Nat → α → α}
    (hlast : ∀ v, p v → q (last v)) (hstep : ∀ n v, p v → p (step n v)) : ∀ (n : Nat) {v : α}, p v → q (downLoop last step n v)
  | 0, _, h => hlast _ h
  | n + 1, _, h => downLoop_keeps hlast hstep n (hstep n _ h)

theorem rowLoop_keeps {ρ α : Type} {p : α → Prop} {step : ρ → Nat → α → α} : ∀ (rows : List ρ) (k : Nat) {v : α},
    (∀ row ∈ rows, ∀ k v, p v → p (step row k v)) → p v → p (rowLoop step rows k v)
  | [], _, _, _, h => h
  | row :: rows, k, _, hstep, h =>
    rowLoop_keeps rows (k + 1) (fun r hr => hstep r (List.mem_cons_of_mem row hr)) (hstep row List.mem_cons_self k _ h)

/-! ## The point functions (R266 to R280) -/

theorem goodP_ptAdd {u v : P3} (hu : GoodP u) (hv : GoodP v) : GoodP (ptAdd u v) :=
  goodP_p3FromC (goodC_ptCadd hu (goodQ_qFromP3 hv))

theorem goodP_ptSub {u v : P3} (hu : GoodP u) (hv : GoodP v) : GoodP (ptSub u v) :=
  goodP_p3FromC (goodC_ptCsub hu (goodQ_qFromP3 hv))

theorem goodP_ptNeg {u : P3} (hu : GoodP u) : GoodP (ptNeg u) := by
  obtain ⟨⟨hX, hY, hZ, hT⟩, h1, h2⟩ := hu
  have hc : ExtendedEq dField (-toField u.X) (toField u.Y) (toField u.Z) (-toField u.T) :=
    ⟨by linear_combination h1, by linear_combination -h2⟩
  simp only [ptNeg]
  exact goodP_intro (q := ⟨feNeg u.X, u.Y, u.Z, feNeg u.T⟩) (rep_neg (rep_self hX)) (rep_self hY) (rep_self hZ)
    (rep_neg (rep_self hT)) hc

theorem goodP_ptMul8 {p : P3} (h : GoodP p) : GoodP (ptMul8 p) :=
  goodP_p3FromC (goodC_ptCdbl (goodJ_double (goodJ_double (goodJ_p2FromP3 h))))

theorem goodP_ptMul16 {p : P3} (h : GoodP p) : GoodP (ptMul16 p) :=
  goodP_p3FromC (goodC_ptCdbl (goodJ_double (goodJ_double (goodJ_double (goodJ_p2FromP3 h)))))

theorem goodP_mullStep {q : ProjCached} (hq : GoodQ q) (n : Nat) {acc : P3} (h : GoodP acc) : GoodP (mullStep q n acc) := by
  unfold mullStep
  split
  · exact goodP_p3FromC (goodC_ptCadd (goodP_double h) hq)
  · exact goodP_double h

theorem goodP_ptMulL {p : P3} (h : GoodP p) : GoodP (ptMulL p) := by
  rw [ptMulL, mullLoop_eq]
  exact downLoop_keeps (p := GoodP) (fun _ hv => hv) (fun n _ hv => goodP_mullStep (goodQ_qFromP3 h) n hv) _ h

theorem goodP_smulStep {t : ProjTable} (ht : ∀ e ∈ t.toList, GoodQ e) (d : List Int) (n : Nat) {v : P3} (h : GoodP v) :
    GoodP (smulStep t d n v) :=
  goodP_p3FromC (goodC_ptCadd (goodP_ptMul16 h) (goodQ_ltSel ht _))

theorem goodP_ptSmul (s : Nat) {q : P3} (hq : GoodP q) : GoodP (ptSmul s q) := by
  have ht := goodQ_ltBuild hq
  rw [ptSmul, smulLoop_eq]
  exact downLoop_keeps (p := GoodP) (fun _ hv => hv) (fun n _ hv => goodP_smulStep ht _ n hv) _
    (goodP_p3FromC (goodC_ptCadd goodP_ident (goodQ_ltSel ht _)))

/-- A pass over the rows of BPT. -/
theorem goodP_bmulLoop (d : List Int) (odd k : Nat) {v : P3} (h : GoodP v) : GoodP (bmulLoop d odd BPT.toList k v) := by
  rw [bmulLoop_eq]
  exact rowLoop_keeps _ k (fun _ hrow _ _ hv => goodP_p3FromC (goodC_ptCadda hv (goodA_atSel (goodA_BPT hrow) _))) h

theorem goodP_ptBmul (s : Nat) : GoodP (ptBmul s) := by
  rw [ptBmul]
  exact goodP_bmulLoop _ _ _ (goodP_ptMul16 (goodP_bmulLoop _ _ _ goodP_ident))

theorem goodC_nafAdd {t : ProjTable} (ht : ∀ e ∈ t.toList, GoodQ e) (x : Int) {c : P1xP1} (hc : GoodC c) :
    GoodC (nafAdd t x c) := by
  unfold nafAdd
  split_ifs
  · exact goodC_ptCadd (goodP_p3FromC hc) (goodQ_ntSel ht _)
  · exact goodC_ptCsub (goodP_p3FromC hc) (goodQ_ntSel ht _)
  · exact hc

theorem goodC_nafAddBase (x : Int) {c : P1xP1} (hc : GoodC c) : GoodC (nafAddBase x c) := by
  unfold nafAddBase
  split_ifs
  · exact goodC_ptCadda (goodP_p3FromC hc) (goodA_bntSel _)
  · exact goodC_ptCsuba (goodP_p3FromC hc) (goodA_bntSel _)
  · exact hc

theorem goodP_dblAddLoop {add : Nat → P1xP1 → P1xP1} (hadd : ∀ i c, GoodC c → GoodC (add i c)) (i : Nat) {j : P2} (h : GoodJ j) :
    GoodP (dblAddLoop add i j) := by
  rw [dblAddLoop_eq]
  exact downLoop_keeps (p := GoodJ) (fun _ hj => goodP_p3FromC (hadd 0 _ (goodC_ptCdbl hj)))
    (fun i _ hj => goodJ_p2FromC (hadd (i + 1) _ (goodC_ptCdbl hj))) i h

theorem goodP_ptVdsbm (a : Nat) {u : P3} (hu : GoodP u) (b : Nat) : GoodP (ptVdsbm a u b) := by
  rw [ptVdsbm]
  exact goodP_dblAddLoop (fun _ _ hc => goodC_nafAddBase _ (goodC_nafAdd (goodQ_ntBuild hu) _ hc)) _ goodJ_ident

/-- A fold over the pairs of a multi-scalar command. -/
theorem foldl_keeps {α σ : Type} {p : α → Prop} {f : α → σ → α} : ∀ {l : List σ} {v : α}, (∀ x ∈ l, ∀ v, p v → p (f v x)) → p v →
    p (l.foldl f v)
  | [], _, _, h => h
  | x :: l, _, hl, h => foldl_keeps (l := l) (fun y hy => hl y (List.mem_cons_of_mem x hy)) (hl x List.mem_cons_self _ h)

theorem goodP_msmAdd (i : Nat) {pairs : List (ProjTable × List Int)} (hp : ∀ td ∈ pairs, ∀ e ∈ td.1.toList, GoodQ e) {v : P3}
    (h : GoodP v) : GoodP (msmAdd pairs i v) :=
  foldl_keeps (fun td htd _ hv => goodP_p3FromC (goodC_ptCadd hv (goodQ_ltSel (hp td htd) _))) h

theorem goodC_vmsmAdd (i : Nat) {pairs : List (ProjTable × List Int)} (hp : ∀ td ∈ pairs, ∀ e ∈ td.1.toList, GoodQ e) {c : P1xP1}
    (h : GoodC c) : GoodC (vmsmAdd pairs i c) :=
  foldl_keeps (fun td htd _ hc => goodC_nafAdd (hp td htd) _ hc) h

/-- The tables of a multi-scalar command, one per point (R279, R280). -/
theorem goodQ_pairs {sp : List (Nat × P3)} (hsp : ∀ x ∈ sp, GoodP x.2) {build : P3 → ProjTable}
    (hbuild : ∀ {p : P3}, GoodP p → ∀ e ∈ (build p).toList, GoodQ e) (recode : Nat → List Int) :
    ∀ td ∈ sp.map fun x => (build x.2, recode x.1), ∀ e ∈ td.1.toList, GoodQ e := by
  intro td htd
  obtain ⟨x, hx, rfl⟩ := List.mem_map.1 htd
  exact hbuild (hsp x hx)

theorem goodP_ptMsm {sp : List (Nat × P3)} (hsp : ∀ x ∈ sp, GoodP x.2) : GoodP (ptMsm sp) := by
  rw [ptMsm, msmLoop_eq]
  exact downLoop_keeps (p := GoodP) (fun _ hv => hv)
    (fun n _ hv => goodP_msmAdd n (goodQ_pairs hsp goodQ_ltBuild scRadix16) (goodP_ptMul16 hv)) _ goodP_ident

theorem goodP_ptVmsm {sp : List (Nat × P3)} (hsp : ∀ x ∈ sp, GoodP x.2) : GoodP (ptVmsm sp) := by
  rw [ptVmsm]
  exact goodP_dblAddLoop (fun i _ hc => goodC_vmsmAdd i (goodQ_pairs hsp goodQ_ntBuild fun s => scNaf s 5) hc) _ goodJ_ident

/-- A decoded point (R263): the root `x` of `u/v` gives `x²(dy²+1) = y²−1`, and `T = xy` with `Z = 1`. -/
theorem goodP_ptSetBytes {b : List Byte} {p : P3} (h : ptSetBytes b = some p) : GoodP p := by
  unfold ptSetBytes at h
  extract_lets y y2 u v at h
  have hy : Rep y _ := rep_limbs (v := leNat b % 2 ^ 255) (Nat.mod_lt _ (by decide))
  have hu : Rep u _ := rep_sub (rep_sqr hy) rep_one
  have hv : Rep v _ := rep_add (rep_mul (rep_sqr hy) rep_d) rep_one
  have hroot := feSqrtRatio_found hu hv
  generalize feSqrtRatio u v = res at h hroot
  obtain ⟨r, was⟩ := res
  dsimp only at h hroot
  split at h
  · next hwas =>
    obtain ⟨z, hz, hsq⟩ := hroot hwas
    have hx := rep_sel (rep_neg hz) hz (b.getD 31 0).msb
    have hneg : (if (b.getD 31 0).msb then -z else z) ^ 2 = z ^ 2 := by
      split
      · exact neg_sq z
      · rfl
    cases h
    refine goodP_intro hx hy rep_one (rep_mul hx hy) ⟨?_, by ring⟩
    rw [mul_pow, hneg]
    linear_combination -hsq
  · cases h

/-! ## Every command but PFROMC (R31, R283) -/

/-- Every next state the outcome can answer meets the points' invariant. -/
def KeepsPoints (o : Outcome) : Prop := ∀ t, o = .next t → PointsInv t

section Commands

variable {s : State}

/-- A command that writes no P register. -/
theorem keepsPoints_of_frame {i : Instr} (hs : PointsInv s) (hw : (writes i).P = []) : KeepsPoints (exec i s) := by
  intro t ht j hj
  have hP := (exec_frames i s t ht).P j (by simp [hw])
  rw [hP] at hj ⊢
  exact hs j hj

theorem keepsPoints_raise (hs : PointsInv s) (e : CmdError) : KeepsPoints (raise e s) := by
  intro t ht
  rw [raise_eq.1 ht]
  exact hs

theorem keepsPoints_complete_setP (hs : PointsInv s) (d : Fin 16) {v : P3} (hv : GoodP v) :
    KeepsPoints (complete (setP d v s)) := by
  intro t ht j hj
  rw [complete_eq.1 ht] at hj ⊢
  change (s.P.set d ⟨true, v⟩)[j].tag = true at hj
  change GoodP (s.P.set d ⟨true, v⟩)[j].val
  by_cases hd : d = j
  · subst hd
    simpa using hv
  · have hne := Vector.getElem_set_ne (xs := s.P) (x := ⟨true, v⟩) d.isLt j.isLt fun h => hd (Fin.ext h)
    rw [Fin.getElem_fin, hne] at hj ⊢
    exact hs j hj

/-- A P source is an initialised register, hence good. -/
theorem keepsPoints_withP (hs : PointsInv s) (a : Fin 16) {k : P3 → Outcome} (hk : ∀ p, GoodP p → KeepsPoints (k p)) :
    KeepsPoints (withP a s k) := by
  intro t ht
  obtain ⟨htag, h⟩ | ⟨-, h⟩ := withTagged_cases ht
  · exact hk _ (hs a htag) t h
  · exact keepsPoints_raise hs _ t h

theorem goodP_of_pairSources (hs : PointsInv s) {a : Fin 8} {b : Fin 16} {n : Nat}
    (htag : ∀ x ∈ pairSources a b n s, x.2.tag = true) :
    ∀ x ∈ (pairSources a b n s).map fun x => (x.1.toNat, x.2.val), GoodP x.2 := by
  intro x hx
  obtain ⟨y, hy, rfl⟩ := List.mem_map.1 hx
  have hmem : y.2 ∈ s.P.toList := List.mem_of_mem_drop (List.mem_of_mem_take (List.of_mem_zip hy).2)
  obtain ⟨j, hj, hget⟩ := List.getElem_of_mem hmem
  rw [Vector.length_toList] at hj
  rw [Vector.getElem_toList] at hget
  have ht := htag y hy
  rw [← hget] at ht ⊢
  exact hs ⟨j, hj⟩ ht

theorem keepsPoints_withPairs (hs : PointsInv s) (a : Fin 8) (b : Fin 16) (n : Nat) {k : List (Nat × P3) → Outcome}
    (hk : ∀ sp, (∀ x ∈ sp, GoodP x.2) → KeepsPoints (k sp)) : KeepsPoints (withPairs a b n s k) := by
  intro t ht
  obtain ⟨-, htag, h⟩ | ⟨-, -, h⟩ | ⟨-, h⟩ := withPairs_cases ht
  · exact hk _ (goodP_of_pairSources hs htag) t h
  · exact keepsPoints_raise hs _ t h
  · exact keepsPoints_raise hs _ t h

theorem keepsPoints_psetb (hs : PointsInv s) (d : Fin 16) (n : Fin 4) : KeepsPoints (execPsetb d n s) := by
  intro t ht
  obtain ⟨-, h⟩ | ⟨-, h⟩ := withBytes_cases ht
  · obtain ⟨p, hp, h⟩ | ⟨-, h⟩ := withSome_cases h
    · exact keepsPoints_complete_setP hs d (goodP_ptSetBytes hp) t h
    · exact keepsPoints_raise hs _ t h
  · exact keepsPoints_raise hs _ t h

theorem keepsPoints_psetext (hs : PointsInv s) (d : Fin 16) {a : Fin 29} (ha : (readQuad a s).inDomain) :
    KeepsPoints (execPsetext d a s) := by
  unfold execPsetext
  split
  · next hc => exact keepsPoints_complete_setP hs d ⟨ha, (ptOnCurve_iff ha).1 hc⟩
  · exact keepsPoints_raise hs _

end Commands

/-- Settles O25: a command that writes no P register keeps them by its frame; every other one writes the value of a point function
above, whose sources are initialised registers, constants or checked coordinates. -/
theorem pointsStayOnCurve : Obligations.PointsStayOnCurve := by
  unfold Obligations.PointsStayOnCurve
  intro i s t hs hpfromc hpsetext ht
  suffices h : KeepsPoints (exec i s) from h t ht
  cases i with
  | pfromc d a => exact absurd rfl (hpfromc d a)
  | psetb d n => exact keepsPoints_psetb hs d n
  | psetext d a => exact keepsPoints_psetext hs d (hpsetext d a rfl)
  | pident d => exact keepsPoints_complete_setP hs d goodP_ident
  | pgen d => exact keepsPoints_complete_setP hs d goodP_gen
  | pmov d a => exact keepsPoints_withP hs a fun _ hp => keepsPoints_complete_setP hs d hp
  | pneg d a => exact keepsPoints_withP hs a fun _ hp => keepsPoints_complete_setP hs d (goodP_ptNeg hp)
  | pmul8 d a => exact keepsPoints_withP hs a fun _ hp => keepsPoints_complete_setP hs d (goodP_ptMul8 hp)
  | pmull d a => exact keepsPoints_withP hs a fun _ hp => keepsPoints_complete_setP hs d (goodP_ptMulL hp)
  | padd d a b =>
    exact keepsPoints_withP hs a fun _ hp => keepsPoints_withP hs b fun _ hq => keepsPoints_complete_setP hs d (goodP_ptAdd hp hq)
  | psub d a b =>
    exact keepsPoints_withP hs a fun _ hp => keepsPoints_withP hs b fun _ hq => keepsPoints_complete_setP hs d (goodP_ptSub hp hq)
  | psmul d a b => exact keepsPoints_withP hs b fun _ hp => keepsPoints_complete_setP hs d (goodP_ptSmul _ hp)
  | pbmul d a => exact keepsPoints_complete_setP hs d (goodP_ptBmul _)
  | pvdsbm d a b c => exact keepsPoints_withP hs b fun _ hp => keepsPoints_complete_setP hs d (goodP_ptVdsbm _ hp _)
  | pmsm d a b n => exact keepsPoints_withPairs hs a b n fun _ hsp => keepsPoints_complete_setP hs d (goodP_ptMsm hsp)
  | pvmsm d a b n => exact keepsPoints_withPairs hs a b n fun _ hsp => keepsPoints_complete_setP hs d (goodP_ptVmsm hsp)
  | _ => exact keepsPoints_of_frame hs rfl

end Sys2Proof.Proofs

/-! The host's data path (20_memory.md): reads of the window (O6), words and byte strings in the buffers (O10), and the commands that
move byte strings between the buffers and the registers (O30, O31). -/

namespace Sys2Proof.Proofs

open Sys2Proof.Machine Sys2Proof.Laws

/-! ## Window words (R62, R64 to R66) -/

theorem access_read {off : Nat} (hoff : off < 0x1000) (h4 : off % 4 = 0) (s : State) :
    access (.read 4 off) s = .next { s with answer := some (readWord off s) } := by
  have hw : ¬ off ≥ Config.windowSize := Nat.not_le.2 hoff
  simp [access, hw, accepted, h4]

/-- What a read returns depends on neither the host's list nor its answer. -/
theorem readWord_takeAccess (off : Nat) (rest : List Access) (s : State) : readWord off (takeAccess rest s) = readWord off s := rfl

/-- Settles O6: the step takes the access off the list, and an accepted read sets the answer alone. -/
theorem readHasNoEffect : Obligations.ReadHasNoEffect := by
  unfold Obligations.ReadHasNoEffect
  intro s off rest h hoff h4
  rw [step_of_pending h, access_read hoff h4, readWord_takeAccess]
  rfl

theorem writeWord_ioData {off : Nat} (h : isIoData off = true) (v : Word32) (s : State) :
    writeWord off v s = .next { s with IO := s.IO.writeBytes off (wordBytes v) } := by
  have hne := register_ne (Nat.le_trans (by decide) (isIoData_le h))
  simp [writeWord, h, hne]

theorem wordBytes_getD (v : Word32) {j : Nat} (hj : j < 4) : (wordBytes v).getD j 0 = v.extractLsb' (8 * j) 8 := by
  interval_cases j <;> rfl

/-- The bytes of a word just written, the lowest offset first (R64). -/
theorem read_writeBytes_wordBytes (m : Memory) (off : Nat) (v : Word32) {j : Nat} (hj : j < 4) :
    (m.writeBytes off (wordBytes v)).read (off + j) = v.extractLsb' (8 * j) 8 := by
  rw [read_writeBytes, if_pos ⟨Nat.le_add_right _ _, Nat.add_lt_add_left hj _⟩, Nat.add_sub_cancel_left, wordBytes_getD v hj]

/-- A word is determined by its four bytes. -/
theorem word_ext {u v : Word32} (h : ∀ j < 4, u.extractLsb' (8 * j) 8 = v.extractLsb' (8 * j) 8) : u = v := by
  refine BitVec.eq_of_getLsbD_eq fun i hi => ?_
  have hbit := congrArg (·.getLsbD (i % 8)) (h (i / 8) (by omega))
  simpa [BitVec.getLsbD_extractLsb', Nat.mod_lt, Nat.div_add_mod] using hbit

/-- Settles O10: the bytes follow from the read after a write of a byte string; the word reads back because its bytes do. -/
theorem bufferWord : Obligations.BufferWord := by
  unfold Obligations.BufferWord
  intro s v n k hk
  have hdata := isIoData_word n hk
  refine ⟨_, writeWord_ioData hdata v s, ?bytes, ?frame, ?readBack, rfl⟩
  case bytes =>
    intro j hj
    have hoff : ioOffset n (4 * k + j) = 0x100 + 0x80 * n.val + 4 * k + j := by simp only [ioOffset, Nat.add_assoc]
    rw [hoff, read_writeBytes_wordBytes _ _ v hj]
  case frame =>
    intro a ha
    have hout : ¬ (0x100 + 0x80 * n.val + 4 * k ≤ a ∧ a < 0x100 + 0x80 * n.val + 4 * k + (wordBytes v).length) := by
      simp only [ioOffset] at ha
      simp only [wordBytes, List.length_cons, List.length_nil]
      omega
    rw [read_writeBytes, if_neg hout]
  case readBack =>
    rw [readWord_ioData hdata]
    exact word_ext fun j hj => (ioWord_byte _ _ hj).trans (read_writeBytes_wordBytes _ _ v hj)

/-! ## Byte strings as integers (R10) -/

theorem leNat_take_add_drop (n : Nat) (b : List Byte) : leNat (b.take n) + 256 ^ n * leNat (b.drop n) = leNat b := by
  induction n generalizing b with
  | zero => simp [leNat]
  | succ n ih =>
    cases b with
    | nil => simp [leNat]
    | cons x b =>
      rw [List.take_succ_cons, List.drop_succ_cons, leNat, leNat, ← ih b]
      ring

theorem leNat_lt (b : List Byte) : leNat b < 256 ^ b.length := by
  induction b with
  | nil => exact Nat.one_pos
  | cons x b ih =>
    have hx := x.isLt
    rw [leNat, List.length_cons, pow_succ]
    omega

theorem bytesLE_append {v : Nat} (w m n : Nat) (hv : v < 256 ^ m) :
    bytesLE (v + 256 ^ m * w) (m + n) = bytesLE v m ++ bytesLE w n := by
  induction m generalizing v with
  | zero =>
    obtain rfl : v = 0 := by simpa using hv
    simp [bytesLE]
  | succ m ih =>
    have hlow : v / 256 < 256 ^ m := Nat.div_lt_of_lt_mul (by rwa [← pow_succ'])
    have hdiv : (v + 256 ^ (m + 1) * w) / 256 = v / 256 + 256 ^ m * w := by
      rw [pow_succ', Nat.mul_assoc, Nat.add_mul_div_left _ _ (by decide)]
    have hbyte : BitVec.ofNat 8 (v + 256 ^ (m + 1) * w) = BitVec.ofNat 8 v := by
      refine BitVec.eq_of_toNat_eq ?_
      rw [BitVec.toNat_ofNat, BitVec.toNat_ofNat, pow_succ', Nat.mul_assoc]
      exact Nat.add_mul_mod_self_left _ _ _
    rw [Nat.add_right_comm, bytesLE, bytesLE, hbyte, hdiv, ih hlow, List.cons_append]

/-! ## From a buffer to a field register (R133, R158, R160) -/

theorem withBytes_of_length {n : Fin 4} {len : Nat} {s : State} (h : s.IOLEN[n].toNat = len) (e : CmdError)
    (k : List Byte → Outcome) : withBytes n len e s k = k (ioBytes n len s) := if_pos h

/-- The five pieces of the split are 51 bits wide, whatever is split (R12, R133). -/
theorem limbs_le (v : Nat) : (limbs v).le (2 ^ 51 - 1) (2 ^ 51 - 1) := by
  have h (i : Nat) : (limbOf v i).toNat ≤ 2 ^ 51 - 1 := by
    rw [toNat_limbOf]
    exact Nat.le_sub_one_of_lt (Nat.mod_lt _ (by decide))
  exact ⟨h 0, h 1, h 2, h 3, h 4⟩

theorem length_readBytes (m : Memory) (n : Nat) : ∀ a, (m.readBytes a n).length = n := by
  induction n with
  | zero => intro a; rfl
  | succ n ih => intro a; rw [Memory.readBytes, List.length_cons, ih]

theorem toNat_limbAt (b : List Byte) (i : Nat) : (limbAt b i).toNat = leNat ((b.drop (8 * i)).take 8) := by
  have hlt : leNat ((b.drop (8 * i)).take 8) < 2 ^ 64 :=
    calc leNat ((b.drop (8 * i)).take 8) < 256 ^ ((b.drop (8 * i)).take 8).length := leNat_lt _
      _ ≤ 256 ^ 8 := Nat.pow_le_pow_right (by decide) (List.length_take_le _ _)
      _ = 2 ^ 64 := by decide
  rw [limbAt, BitVec.toNat_ofNat, Nat.mod_eq_of_lt hlt]

/-- The bytes from position `8·i` on are limb `i` and the bytes after it. -/
theorem leNat_drop_limb (b : List Byte) (i : Nat) :
    leNat (b.drop (8 * i)) = (limbAt b i).toNat + 2 ^ 64 * leNat (b.drop (8 * (i + 1))) := by
  have hsplit := leNat_take_add_drop 8 (b.drop (8 * i))
  rw [List.drop_drop, ← Nat.mul_succ] at hsplit
  rw [toNat_limbAt, show 2 ^ 64 = 256 ^ 8 by decide]
  exact hsplit.symm

/-- The raw limbs hold the whole 40-byte image (R160). -/
theorem limbsOfBytes_value {b : List Byte} (hb : b.length = 40) :
    (limbsOfBytes b).l0.toNat + 2 ^ 64 * (limbsOfBytes b).l1.toNat + 2 ^ 128 * (limbsOfBytes b).l2.toNat +
      2 ^ 192 * (limbsOfBytes b).l3.toNat + 2 ^ 256 * (limbsOfBytes b).l4.toNat = leNat b := by
  have h0 : leNat b = _ := leNat_drop_limb b 0
  have hend : leNat (b.drop (8 * 5)) = 0 := by rw [List.drop_of_length_le (by omega), leNat]
  rw [h0, leNat_drop_limb b 1, leNat_drop_limb b 2, leNat_drop_limb b 3, leNat_drop_limb b 4, hend]
  simp only [limbsOfBytes]
  ring

/-- Settles O30: with the required length both commands go on with the buffer's bytes; the values are those of `limbs` and of
the raw limbs above. -/
theorem fieldDecoders : Obligations.FieldDecoders := by
  unfold Obligations.FieldDecoders
  refine fun s n => ⟨fun hlen d => ?fsetb, fun hlen d => ?fldl⟩
  case fsetb =>
    refine ⟨feSetBytes (ioBytes n 32 s), ?_, limbs_le _, val_limbs (Nat.mod_lt _ (by decide))⟩
    rw [exec, execFsetb, withBytes_of_length (len := 32) (congrArg BitVec.toNat hlen)]
    rfl
  case fldl =>
    refine ⟨limbsOfBytes (ioBytes n 40 s), ?_, limbsOfBytes_value (length_readBytes _ _ _)⟩
    rw [exec, execFldl, withBytes_of_length (len := 40) (congrArg BitVec.toNat hlen)]
    rfl

/-! ## From a register to a buffer (R67, R159, R161, R188, R264, R265, R312) -/

theorem withTagged_of_tag {α : Type} {r : Tagged α} (h : r.tag = true) (e : CmdError) (s : State) (k : α → Outcome) :
    withTagged r e s k = k r.val := if_pos h

theorem padTo_getD (m : Nat) (b : List Byte) {k : Nat} (hk : k < m) : (padTo m b).getD k 0 = b.getD k 0 := by
  simp only [padTo, List.getD_eq_getElem?_getD, List.getElem?_take_of_lt hk, List.getElem?_append, List.getElem?_replicate]
  split
  · rfl
  · next h =>
    rw [List.getElem?_eq_none (Nat.le_of_not_lt h)]
    split <;> rfl

/-- `IOWrite` of at most 64 bytes leaves the buffer holding exactly them (R67). -/
theorem bufferHolds_ioWrite (n : Fin 4) {b : List Byte} (hb : b.length ≤ 64) (s : State) : bufferHolds (ioWrite n b s) n b := by
  refine ⟨?_, fun k hk => ?_⟩
  · have hset : (ioWrite n b s).IOLEN[n] = BitVec.ofNat 7 b.length := Vector.getElem_set_self _
    rw [hset, BitVec.toNat_ofNat, Nat.mod_eq_of_lt (by omega)]
  · have hoff : ioOffset n k = ioOffset n 0 + k := rfl
    rw [hoff, read_ioWrite, if_pos ⟨Nat.le_add_right _ _, Nat.add_lt_add_left hk _⟩, Nat.add_sub_cancel_left, padTo_getD _ _ hk]

/-- A completed `IOWrite`, the last step of every command of this section. -/
theorem complete_ioWrite_holds (n : Fin 4) {b : List Byte} (hb : b.length ≤ 64) (s : State) :
    ∃ t, complete (ioWrite n b s) = .next t ∧ t.LASTERR = 0 ∧ bufferHolds t n b :=
  ⟨_, rfl, rfl, bufferHolds_ioWrite n hb s⟩

theorem length_feBytes (l : Limbs) : (feBytes l).length = 32 := length_bytesLE 32 _

theorem length_ptBytes (p : P3) : (ptBytes p).length = 32 := by
  simp only [ptBytes, List.length_set, length_feBytes]

theorem length_digitBlock (g : Vector Byte 256) (blk : Fin 4) : (digitBlock g blk).length = 64 := by
  rw [digitBlock, List.length_take, List.length_drop, Vector.length_toList]
  omega

/-- Digit `k` of a register is byte `k mod 64` of its block (R312). -/
theorem digitBlock_getD (g : Vector Byte 256) {blk : Fin 4} {k : Fin 256} (hk : k.val / 64 = blk.val) :
    (digitBlock g blk).getD (k.val % 64) 0 = g[k] := by
  have hpos : 64 * blk.val + k.val % 64 = k.val := by rw [← hk, Nat.div_add_mod]
  rw [digitBlock, List.getD_eq_getElem?_getD, List.getElem?_take_of_lt (Nat.mod_lt _ (by decide)), List.getElem?_drop, hpos,
    List.getElem?_eq_getElem (by simp), Option.getD_some, Vector.getElem_toList]
  rfl

/-- The image of a limb vector is the encoding of its five limbs side by side (R161). -/
theorem limbBytes_eq (l : Limbs) : limbBytes l = bytesLE (l.l0.toNat + 2 ^ 64 * l.l1.toNat + 2 ^ 128 * l.l2.toNat +
    2 ^ 192 * l.l3.toNat + 2 ^ 256 * l.l4.toNat) 40 := by
  have hnest : l.l0.toNat + 2 ^ 64 * l.l1.toNat + 2 ^ 128 * l.l2.toNat + 2 ^ 192 * l.l3.toNat + 2 ^ 256 * l.l4.toNat =
      l.l0.toNat + 256 ^ 8 * (l.l1.toNat + 256 ^ 8 * (l.l2.toNat + 256 ^ 8 * (l.l3.toNat + 256 ^ 8 * l.l4.toNat))) := by ring
  rw [hnest, bytesLE_append _ 8 32 l.l0.isLt, bytesLE_append _ 8 24 l.l1.isLt, bytesLE_append _ 8 16 l.l2.isLt,
    bytesLE_append _ 8 8 l.l3.isLt]
  simp only [limbBytes, List.append_assoc]

/-- Settles O31: each command is a completed `IOWrite` of its encoding, which is at most 64 bytes long. -/
theorem bufferEncoders : Obligations.BufferEncoders := by
  unfold Obligations.BufferEncoders
  refine fun s n => ⟨fun a => ?fgetb, fun a => ?fstl, fun a => ?sgetb, fun a htag => ?pgetb, fun a htag => ?pgetm,
    fun g blk => ?dgst⟩
  case fgetb => exact complete_ioWrite_holds n (by rw [length_feBytes]; decide) s
  case fstl =>
    rw [← limbBytes_eq]
    exact complete_ioWrite_holds n (by simp [limbBytes, length_bytesLE]) s
  case sgetb => exact complete_ioWrite_holds n (by rw [scBytes, length_bytesLE]; decide) s
  case pgetb =>
    rw [exec, execPgetb, withP, withTagged_of_tag htag]
    exact complete_ioWrite_holds n (by rw [length_ptBytes]; decide) s
  case pgetm =>
    rw [exec, execPgetm, withP, withTagged_of_tag htag]
    exact complete_ioWrite_holds n (by rw [ptMontgomery, length_feBytes]; decide) s
  case dgst =>
    have hlen := length_digitBlock s.DG[g] blk
    obtain ⟨t, ht, herr, hIOLEN, hbytes⟩ := complete_ioWrite_holds n (b := digitBlock s.DG[g] blk) (by rw [hlen]) s
    refine ⟨t, ht, herr, BitVec.eq_of_toNat_eq (by rw [hIOLEN, hlen]; rfl), fun k hk => ?_⟩
    rw [hbytes _ (Nat.mod_lt _ (by decide)), digitBlock_getD _ hk]

end Sys2Proof.Proofs

/-! The command word (30_encoding.md): its five fields, the rows of R96 as bounds on them, and the decoder arm by arm. From these the
round trip (O1), the opcode table (O2), the words worked out by hand (O3) and the words of nine field commands (O27); and the step
of an illegal word (O5). -/

namespace Sys2Proof.Proofs

open Sys2Proof.Machine Sys2Proof.Laws

/-! ## Words and their five fields (R91) -/

/-- Every field lies within its width. -/
def FieldsWithin (f : Fields) : Prop := f.opc < 2 ^ 8 ∧ f.ra < 2 ^ 5 ∧ f.rb < 2 ^ 5 ∧ f.rc < 2 ^ 5 ∧ f.imm < 2 ^ 9

theorem fieldsOf_eq (w : Word32) : fieldsOf w =
    ⟨w.toNat / 2 ^ 24 % 2 ^ 8, w.toNat / 2 ^ 19 % 2 ^ 5, w.toNat / 2 ^ 14 % 2 ^ 5, w.toNat / 2 ^ 9 % 2 ^ 5, w.toNat % 2 ^ 9⟩ := by
  simp only [fieldsOf, BitVec.extractLsb_toNat, Nat.shiftRight_eq_div_pow, pow_zero, Nat.div_one]

theorem fieldsOf_within (w : Word32) : FieldsWithin (fieldsOf w) := by
  simp only [fieldsOf_eq, FieldsWithin]
  omega

/-- Packing fields that fit drops no bit. -/
theorem fieldsOf_packFields {f : Fields} (h : FieldsWithin f) : fieldsOf (packFields f) = f := by
  obtain ⟨opc, ra, rb, rc, imm⟩ := f
  simp only [FieldsWithin] at h
  simp only [fieldsOf_eq, packFields, BitVec.toNat_ofNat, Fields.mk.injEq]
  omega

/-- The five fields are all of the word. -/
theorem packFields_fieldsOf (w : Word32) : packFields (fieldsOf w) = w := by
  have hw := w.isLt
  refine BitVec.eq_of_toNat_eq ?_
  simp only [fieldsOf_eq, packFields, BitVec.toNat_ofNat]
  omega

theorem fieldsOf_injective : Function.Injective fieldsOf := Function.LeftInverse.injective packFields_fieldsOf

theorem fieldsOf_and (w m : Word32) : fieldsOf (w &&& m) =
    ⟨(fieldsOf w).opc &&& (fieldsOf m).opc, (fieldsOf w).ra &&& (fieldsOf m).ra, (fieldsOf w).rb &&& (fieldsOf m).rb,
      (fieldsOf w).rc &&& (fieldsOf m).rc, (fieldsOf w).imm &&& (fieldsOf m).imm⟩ := by
  simp only [fieldsOf, BitVec.extractLsb, BitVec.extractLsb'_and, BitVec.toNat_and]

/-- The fields of a well-formed command are within their widths: those the register types do not bound, by the laws of the commands
with such fields. -/
theorem encodeFields_within {i : Instr} (h : i.wellFormed = true) : FieldsWithin (encodeFields i) := by
  cases i with
  | kset => exact FieldsFit.kset _ _ h
  | xget => exact FieldsFit.xget _ _ h
  | fldc => exact FieldsFit.fldc _ _ h
  | snaf => exact FieldsFit.snaf _ _ _ h
  | ltseli => exact FieldsFit.ltseli _ _ _ h
  | atseli => exact FieldsFit.atseli _ _ _ h
  | btseli => exact FieldsFit.btseli _ _ _ h
  | ntsel => exact FieldsFit.ntsel _ _ _ h
  | bnsel => exact FieldsFit.bnsel _ _ h
  | pmsm => exact FieldsFit.pmsm _ _ _ _ h
  | pvmsm => exact FieldsFit.pvmsm _ _ _ _ h
  | _ =>
    simp only [FieldsWithin, encodeFields]
    omega

/-! ## The rows of R96 as bounds on the fields (R93) -/

/-- The bounds a row sets: its OPC, and for each other field the first value whose masked bits are not all zero. -/
def rowBounds (r : OpcodeRow) : Fields where
  opc := (fieldsOf r.pattern).opc
  ra := 2 ^ 5 - (fieldsOf r.mask).ra
  rb := 2 ^ 5 - (fieldsOf r.mask).rb
  rc := 2 ^ 5 - (fieldsOf r.mask).rc
  imm := 2 ^ 9 - (fieldsOf r.mask).imm

/-- The fields other than OPC lie below these values. -/
structure Bounded (f : Fields) (na nb nc ni : Nat) : Prop where
  ra : f.ra < na
  rb : f.rb < nb
  rc : f.rc < nc
  imm : f.imm < ni

/-- What `covers` says of a word, said of its fields. -/
def Admits (r : OpcodeRow) (f : Fields) : Prop :=
  f.opc = (rowBounds r).opc ∧ Bounded f (rowBounds r).ra (rowBounds r).rb (rowBounds r).rc (rowBounds r).imm ∧ further f = true

/-- A row fixes the whole OPC, and of the other fields some high bits, to zero. -/
theorem row_form : ∀ r ∈ opcodeRows, fieldsOf r.pattern = { opc := (rowBounds r).opc } ∧ (fieldsOf r.mask).opc = 2 ^ 8 - 1 ∧
    (rowBounds r).ra ∣ 2 ^ 5 ∧ (rowBounds r).rb ∣ 2 ^ 5 ∧ (rowBounds r).rc ∣ 2 ^ 5 ∧ (rowBounds r).imm ∣ 2 ^ 9 := by
  decide +kernel

/-- Masking with the high bits of a `k`-bit field gives 0 exactly below the lowest of them. -/
theorem and_highBits_eq_zero {k v m : Nat} (hv : v < 2 ^ k) (hm : m < 2 ^ k) (hdvd : 2 ^ k - m ∣ 2 ^ k) :
    v &&& m = 0 ↔ v < 2 ^ k - m := by
  obtain ⟨j, hj, hpow⟩ := (Nat.dvd_prime_pow Nat.prime_two).1 hdvd
  have hm' : m = 2 ^ j * (2 ^ (k - j) - 1) := by
    rw [Nat.mul_sub, ← pow_add, Nat.add_sub_cancel' hj]
    omega
  have hhigh : v / 2 ^ j < 2 ^ (k - j) := Nat.div_lt_of_lt_mul (by rwa [← pow_add, Nat.add_sub_cancel' hj])
  have hand : v &&& m = 2 ^ j * (v / 2 ^ j) := by
    conv_rhs => rw [← Nat.mod_eq_of_lt hhigh, ← Nat.and_two_pow_sub_one_eq_mod]
    refine Nat.eq_of_testBit_eq fun i => ?_
    simp only [hm', Nat.testBit_and, Nat.testBit_two_pow_mul, Nat.testBit_div_two_pow]
    by_cases hi : j ≤ i <;> simp [hi]
  rw [hand, hpow, Nat.mul_eq_zero, or_iff_right (Nat.two_pow_pos j).ne', Nat.div_eq_zero_iff_lt (Nat.two_pow_pos j)]

theorem covers_iff_admits {r : OpcodeRow} (hr : r ∈ opcodeRows) (w : Word32) :
    r.covers w = true ↔ Admits r (fieldsOf w) := by
  obtain ⟨hpat, hopc, hra, hrb, hrc, himm⟩ := row_form r hr
  obtain ⟨wopc, wra, wrb, wrc, wimm⟩ := fieldsOf_within w
  obtain ⟨-, mra, mrb, mrc, mimm⟩ := fieldsOf_within r.mask
  have hmasked : w &&& r.mask = r.pattern ↔ (fieldsOf w).opc = (rowBounds r).opc ∧
      Bounded (fieldsOf w) (rowBounds r).ra (rowBounds r).rb (rowBounds r).rc (rowBounds r).imm := by
    rw [← fieldsOf_injective.eq_iff, fieldsOf_and, hpat, hopc, Fields.mk.injEq, and_highBits_eq_zero wra mra hra,
      and_highBits_eq_zero wrb mrb hrb, and_highBits_eq_zero wrc mrc hrc, and_highBits_eq_zero wimm mimm himm,
      Nat.and_two_pow_sub_one_eq_mod, Nat.mod_eq_of_lt wopc]
    exact and_congr_right fun _ => ⟨fun ⟨ha, hb, hc, hi⟩ => ⟨ha, hb, hc, hi⟩, fun ⟨ha, hb, hc, hi⟩ => ⟨ha, hb, hc, hi⟩⟩
  rw [OpcodeRow.covers, Bool.and_eq_true, beq_iff_eq, hmasked, Admits, and_assoc]

/-- The row of an OPC. -/
def rowAt (c : Nat) : Option OpcodeRow := opcodeRows.find? fun r => (rowBounds r).opc == c

theorem mem_of_rowAt {c : Nat} {r : OpcodeRow} (h : rowAt c = some r) : r ∈ opcodeRows := List.mem_of_find?_eq_some h

/-- No two rows have one OPC. -/
theorem rowAt_of_mem : ∀ r ∈ opcodeRows, rowAt (rowBounds r).opc = some r := by decide +kernel

/-- Some row covers a word exactly if the row of its OPC admits its fields. -/
theorem exists_covers_iff (w : Word32) :
    (∃ r ∈ opcodeRows, r.covers w = true) ↔ ∃ r, rowAt (fieldsOf w).opc = some r ∧ Admits r (fieldsOf w) := by
  constructor
  · rintro ⟨r, hr, hcov⟩
    have hadm := (covers_iff_admits hr w).1 hcov
    exact ⟨r, hadm.1 ▸ rowAt_of_mem r hr, hadm⟩
  · rintro ⟨r, hrow, hadm⟩
    exact ⟨r, mem_of_rowAt hrow, (covers_iff_admits (mem_of_rowAt hrow) w).2 hadm⟩

theorem admits_iff {r : OpcodeRow} {f : Fields} {na nb nc ni : Nat} (hb : rowBounds r = ⟨f.opc, na, nb, nc, ni⟩) :
    Admits r f ↔ Bounded f na nb nc ni ∧ further f = true := by
  rw [Admits, hb, and_iff_right rfl]

theorem admits_iff_bounded {r : OpcodeRow} {f : Fields} {na nb nc ni : Nat} (hb : rowBounds r = ⟨f.opc, na, nb, nc, ni⟩)
    (hf : further f = true) : Admits r f ↔ Bounded f na nb nc ni := by
  rw [admits_iff hb, and_iff_left hf]

/-! ## The decoder's fields and shapes (R92, R93, R95)

Each check of a field, and the shapes most rows share, by what makes them go on and what they go on with. -/

theorem pure_eq_ok {ε α : Type} {x y : α} : (pure x : Except ε α) = .ok y ↔ x = y := by
  simp only [pure, Except.pure, Except.ok.injEq]

theorem bind_eq_ok {ε α β : Type} {x : Except ε α} {g : α → Except ε β} {r : β} :
    x >>= g = .ok r ↔ ∃ a, x = .ok a ∧ g a = .ok r := by
  cases x with
  | error e => exact ⟨nofun, nofun⟩
  | ok a => exact ⟨fun h => ⟨a, rfl, h⟩, fun ⟨_, ha, h⟩ => Except.ok.inj ha ▸ h⟩

/-- The class, register and component fields of XGET's source (R102). -/
def componentFields : Component → Nat × Nat × Nat
  | .ofP r c => (0, r, c)
  | .ofJ r c => (1, r, c)
  | .ofC r c => (2, r, c)
  | .ofQ r c => (3, r, c)
  | .ofA r c => (4, r, c)

theorem encodeFields_xget (d : Fin 32) (src : Component) : encodeFields (.xget d src) =
    ⟨0x04, d, (componentFields src).1, (componentFields src).2.1, (componentFields src).2.2⟩ := by
  cases src <;> rfl

theorem componentFields_lt (src : Component) :
    (componentFields src).1 < 32 ∧ (componentFields src).2.1 < 32 ∧ (componentFields src).2.2 < 4 := by
  cases src <;> simp only [componentFields] <;> omega

/-- The sources that exist (R102), as the further constraints of R96 say them. -/
theorem exists_componentFields_iff {cls reg comp : Nat} :
    (∃ src, componentFields src = (cls, reg, comp)) ↔ cls ≤ 4 ∧ reg < classRegs cls ∧ comp < classComps cls := by
  constructor
  · rintro ⟨src, h⟩
    cases src <;> cases h <;> exact ⟨by decide, Fin.isLt _, Fin.isLt _⟩
  · rintro ⟨hcls, hreg, hcomp⟩
    interval_cases cls
    · exact ⟨.ofP ⟨reg, hreg⟩ ⟨comp, hcomp⟩, rfl⟩
    · exact ⟨.ofJ ⟨reg, hreg⟩ ⟨comp, hcomp⟩, rfl⟩
    · exact ⟨.ofC ⟨reg, hreg⟩ ⟨comp, hcomp⟩, rfl⟩
    · exact ⟨.ofQ ⟨reg, hreg⟩ ⟨comp, hcomp⟩, rfl⟩
    · exact ⟨.ofA ⟨reg, hreg⟩ ⟨comp, hcomp⟩, rfl⟩

section Checks

variable {n v : Nat} {α : Type} {i : α}

theorem regField_bind {g : Fin n → Except Illegal α} : regField n v >>= g = .ok i ↔ ∃ h : v < n, g ⟨v, h⟩ = .ok i := by
  unfold regField
  split
  · next h => exact ⟨fun hg => ⟨h, hg⟩, fun ⟨_, hg⟩ => hg⟩
  · next h => exact ⟨nofun, fun ⟨hlt, _⟩ => absurd hlt h⟩

theorem immField_bind {g : Fin n → Except Illegal α} : immField n v >>= g = .ok i ↔ ∃ h : v < n, g ⟨v, h⟩ = .ok i := by
  unfold immField
  split
  · next h => exact ⟨fun hg => ⟨h, hg⟩, fun ⟨_, hg⟩ => hg⟩
  · next h => exact ⟨nofun, fun ⟨hlt, _⟩ => absurd hlt h⟩

theorem unused_bind {g : Unit → Except Illegal α} : unused v >>= g = .ok i ↔ ∃ _ : v < 1, g () = .ok i := by
  unfold unused
  split
  · next h => exact ⟨fun hg => ⟨by omega, hg⟩, fun ⟨_, hg⟩ => hg⟩
  · next h => exact ⟨nofun, fun ⟨hlt, _⟩ => absurd (Nat.lt_one_iff.1 hlt) h⟩

theorem require_bind {ok : Bool} {why : Illegal} {g : Unit → Except Illegal α} :
    require ok why >>= g = .ok i ↔ ok = true ∧ g () = .ok i := by
  cases ok
  · exact ⟨nofun, nofun⟩
  · exact ⟨fun hg => ⟨rfl, hg⟩, fun ⟨_, hg⟩ => hg⟩

theorem exists_constImm_iff {v : Nat} : (∃ c, constImm c = v) ↔ v ≤ 4 := by
  constructor
  · rintro ⟨c, rfl⟩
    cases c <;> decide
  · intro h
    interval_cases v
    · exact ⟨.zero, rfl⟩
    · exact ⟨.one, rfl⟩
    · exact ⟨.d, rfl⟩
    · exact ⟨.d2, rfl⟩
    · exact ⟨.sqrtm1, rfl⟩

theorem constField_eq_ok {c : FieldConst} : constField v = .ok c ↔ constImm c = v := by
  constructor
  · intro h
    unfold constField at h
    split at h <;> cases h <;> rfl
  · rintro rfl
    cases c <;> rfl

theorem constField_bind {g : FieldConst → Except Illegal α} : constField v >>= g = .ok i ↔ ∃ c, constImm c = v ∧ g c = .ok i := by
  simp only [bind_eq_ok, constField_eq_ok]

theorem componentField_eq_ok {cls reg comp : Nat} {src : Component} :
    componentField cls reg comp = .ok src ↔ componentFields src = (cls, reg, comp) := by
  constructor
  · intro h
    unfold componentField at h
    split at h
    case h_6 => cases h
    all_goals
      simp only [regField_bind, immField_bind, pure_eq_ok] at h
      obtain ⟨_, _, rfl⟩ := h
      rfl
  · intro h
    cases src with
    | _ r c =>
      cases h
      exact regField_bind.2 ⟨r.isLt, immField_bind.2 ⟨c.isLt, rfl⟩⟩

theorem componentField_bind {cls reg comp : Nat} {g : Component → Except Illegal α} :
    componentField cls reg comp >>= g = .ok i ↔ ∃ src, componentFields src = (cls, reg, comp) ∧ g src = .ok i := by
  simp only [bind_eq_ok, componentField_eq_ok]

end Checks

section Shapes

variable {na nb nc ni : Nat} {f : Fields} {i : Instr}

theorem exists_bounded {p : f.ra < na → f.rb < nb → f.rc < nc → f.imm < ni → Prop} :
    (∃ ha hb hc hi, p ha hb hc hi) ↔ ∃ h : Bounded f na nb nc ni, p h.ra h.rb h.rc h.imm :=
  ⟨fun ⟨ha, hb, hc, hi, hp⟩ => ⟨⟨ha, hb, hc, hi⟩, hp⟩, fun ⟨⟨ha, hb, hc, hi⟩, hp⟩ => ⟨ha, hb, hc, hi, hp⟩⟩

theorem shapeNop_eq_ok : shapeNop f = .ok i ↔ ∃ _ : Bounded f 1 1 1 1, .nop = i := by
  simpa only [shapeNop, unused_bind, pure_eq_ok] using exists_bounded

theorem shapeA_eq_ok {mk : Fin na → Instr} : shapeA na mk f = .ok i ↔ ∃ h : Bounded f na 1 1 1, mk ⟨f.ra, h.ra⟩ = i := by
  simpa only [shapeA, regField_bind, unused_bind, pure_eq_ok] using exists_bounded

theorem shapeAB_eq_ok {mk : Fin na → Fin nb → Instr} :
    shapeAB na nb mk f = .ok i ↔ ∃ h : Bounded f na nb 1 1, mk ⟨f.ra, h.ra⟩ ⟨f.rb, h.rb⟩ = i := by
  simpa only [shapeAB, regField_bind, unused_bind, pure_eq_ok] using exists_bounded

theorem shapeABC_eq_ok {mk : Fin na → Fin nb → Fin nc → Instr} :
    shapeABC na nb nc mk f = .ok i ↔ ∃ h : Bounded f na nb nc 1, mk ⟨f.ra, h.ra⟩ ⟨f.rb, h.rb⟩ ⟨f.rc, h.rc⟩ = i := by
  simpa only [shapeABC, regField_bind, unused_bind, pure_eq_ok] using exists_bounded

theorem shapeABI_eq_ok {mk : Fin na → Fin nb → Fin ni → Instr} :
    shapeABI na nb ni mk f = .ok i ↔ ∃ h : Bounded f na nb 1 ni, mk ⟨f.ra, h.ra⟩ ⟨f.rb, h.rb⟩ ⟨f.imm, h.imm⟩ = i := by
  simpa only [shapeABI, regField_bind, immField_bind, unused_bind, pure_eq_ok] using exists_bounded

theorem shapeABCI_eq_ok {mk : Fin na → Fin nb → Fin nc → Fin ni → Instr} :
    shapeABCI na nb nc ni mk f = .ok i ↔
      ∃ h : Bounded f na nb nc ni, mk ⟨f.ra, h.ra⟩ ⟨f.rb, h.rb⟩ ⟨f.rc, h.rc⟩ ⟨f.imm, h.imm⟩ = i := by
  simpa only [shapeABCI, regField_bind, immField_bind, pure_eq_ok] using exists_bounded

theorem shapeKset_eq_ok : shapeKset f = .ok i ↔ ∃ h : Bounded f 8 1 1 2, .kset ⟨f.ra, h.ra⟩ (f.imm == 1) = i := by
  simpa only [shapeKset, regField_bind, immField_bind, unused_bind, pure_eq_ok] using exists_bounded

/-! The shapes with a condition on IMM, which bounds IMM as the mask of their rows does. -/

theorem exists_bounded_and {q : Prop} {p : f.ra < na → f.rb < nb → f.rc < nc → Prop} (hq : q → f.imm < ni) :
    (∃ ha hb hc, q ∧ p ha hb hc) ↔ ∃ h : Bounded f na nb nc ni ∧ q, p h.1.ra h.1.rb h.1.rc :=
  ⟨fun ⟨ha, hb, hc, h, hp⟩ => ⟨⟨⟨ha, hb, hc, hq h⟩, h⟩, hp⟩, fun ⟨⟨⟨ha, hb, hc, _⟩, h⟩, hp⟩ => ⟨ha, hb, hc, h, hp⟩⟩

theorem shapeABDigit_eq_ok {mk : Fin na → Fin nb → Int → Instr} (himm : f.imm < 2 ^ 9) : shapeABDigit na nb mk f = .ok i ↔
    ∃ h : Bounded f na nb 1 (2 ^ 9) ∧ legalDigit (sextImm f.imm) = true, mk ⟨f.ra, h.1.ra⟩ ⟨f.rb, h.1.rb⟩ (sextImm f.imm) = i := by
  simpa only [shapeABDigit, regField_bind, unused_bind, require_bind, pure_eq_ok] using exists_bounded_and fun _ => himm

theorem digitImm_sextImm {v : Nat} (hv : v < 2 ^ 9) : digitImm (sextImm v) = v := by
  unfold digitImm sextImm
  split <;> omega

theorem sextImm_digitImm {x : Int} (hx : legalDigit x = true) : sextImm (digitImm x) = x := by
  simp only [legalDigit, Bool.and_eq_true, decide_eq_true_eq] at hx
  unfold digitImm sextImm
  split <;> omega

theorem legalNafWidth_lt {w : Nat} (h : legalNafWidth w = true) : w < 16 := by
  simp only [legalNafWidth, Bool.or_eq_true, beq_iff_eq] at h
  omega

theorem shapeSnaf_eq_ok : shapeSnaf f = .ok i ↔
    ∃ h : Bounded f 8 8 1 16 ∧ legalNafWidth f.imm = true, .snaf ⟨f.ra, h.1.ra⟩ ⟨f.rb, h.1.rb⟩ f.imm = i := by
  simpa only [shapeSnaf, regField_bind, unused_bind, require_bind, pure_eq_ok] using exists_bounded_and legalNafWidth_lt

theorem legalOdd_le {top m : Nat} (h : legalOdd top m = true) : m ≤ top := by
  simp only [legalOdd, Bool.and_eq_true, decide_eq_true_eq] at h
  exact h.2

theorem shapeNtsel_eq_ok : shapeNtsel f = .ok i ↔
    ∃ h : Bounded f 8 8 1 16 ∧ legalOdd 15 f.imm = true, .ntsel ⟨f.ra, h.1.ra⟩ ⟨f.rb, h.1.rb⟩ f.imm = i := by
  simpa only [shapeNtsel, regField_bind, unused_bind, require_bind, pure_eq_ok] using
    exists_bounded_and fun h => Nat.lt_succ_of_le (legalOdd_le h)

theorem shapeBnsel_eq_ok : shapeBnsel f = .ok i ↔
    ∃ h : Bounded f 8 1 1 128 ∧ legalOdd 127 f.imm = true, .bnsel ⟨f.ra, h.1.ra⟩ f.imm = i := by
  simpa only [shapeBnsel, regField_bind, unused_bind, require_bind, pure_eq_ok] using
    exists_bounded_and fun h => Nat.lt_succ_of_le (legalOdd_le h)

/-- The pair count and its two registers, each in its file (R102). -/
def PairsLegal (f : Fields) : Prop := ∃ h : Bounded f 16 8 16 16, legalPairs ⟨f.rb, h.rb⟩ ⟨f.rc, h.rc⟩ f.imm = true

theorem legalPairs_le {a : Fin 8} {b : Fin 16} {n : Nat} (h : legalPairs a b n = true) : n ≤ Config.nMsm := by
  simp only [legalPairs, Bool.and_eq_true, decide_eq_true_eq] at h
  exact h.1.1

theorem shapePairs_eq_ok {mk : Fin 16 → Fin 8 → Fin 16 → Nat → Instr} : shapePairs mk f = .ok i ↔
    ∃ h : PairsLegal f, mk ⟨f.ra, h.fst.ra⟩ ⟨f.rb, h.fst.rb⟩ ⟨f.rc, h.fst.rc⟩ f.imm = i := by
  simp only [shapePairs, regField_bind, require_bind, pure_eq_ok, decide_eq_true_eq]
  constructor
  · rintro ⟨ha, hb, hc, hn, hp, rfl⟩
    exact ⟨⟨⟨ha, hb, hc, Nat.lt_of_le_of_lt hn (by decide)⟩, hp⟩, rfl⟩
  · rintro ⟨⟨⟨ha, hb, hc, _⟩, hp⟩, rfl⟩
    exact ⟨ha, hb, hc, legalPairs_le hp, hp, rfl⟩

theorem shapeFldc_eq_ok : shapeFldc f = .ok i ↔
    ∃ (ha : f.ra < 32) (_ : f.rb < 1) (_ : f.rc < 1), ∃ c, constImm c = f.imm ∧ .fldc ⟨f.ra, ha⟩ c = i := by
  simp only [shapeFldc, regField_bind, unused_bind, constField_bind, pure_eq_ok]

theorem shapeXget_eq_ok : shapeXget f = .ok i ↔
    ∃ (ha : f.ra < 32), ∃ src, componentFields src = (f.rb, f.rc, f.imm) ∧ .xget ⟨f.ra, ha⟩ src = i := by
  simp only [shapeXget, regField_bind, componentField_bind, pure_eq_ok]

end Shapes

/-! ## The decoder arm by arm (R96 to R98, R102) -/

/-- What an arm answers is a well-formed command of row `r` with the fields `f`, and it answers one exactly if the row admits `f`. -/
structure Arm (r : OpcodeRow) (f : Fields) (o : Except Illegal Instr) : Prop where
  command : ∀ i, o = .ok i → i.wellFormed = true ∧ encodeFields i = f ∧ r.mnemonic = mnemonicOf i
  accepts : (∃ i, o = .ok i) ↔ Admits r f

/-- An arm that answers the command `mk` of its fields exactly under the condition `p` of its row. -/
theorem arm_of_eq_ok {r : OpcodeRow} {f : Fields} {o : Except Illegal Instr} {p : Prop} {mk : p → Instr}
    (hok : ∀ i, o = .ok i ↔ ∃ h : p, mk h = i) (hp : Admits r f ↔ p)
    (hmk : ∀ h : p, (mk h).wellFormed = true ∧ encodeFields (mk h) = f ∧ r.mnemonic = mnemonicOf (mk h)) : Arm r f o where
  command i hi := by
    obtain ⟨h, rfl⟩ := (hok i).1 hi
    exact hmk h
  accepts := by
    rw [hp]
    exact ⟨fun ⟨i, hi⟩ => ((hok i).1 hi).fst, fun h => ⟨mk h, (hok _).2 ⟨h, rfl⟩⟩⟩

theorem arm_fldc {r : OpcodeRow} {ra rb rc imm : Nat}
    (hr : Admits r ⟨0x10, ra, rb, rc, imm⟩ ↔ Bounded ⟨0x10, ra, rb, rc, imm⟩ 32 1 1 8 ∧ decide (imm ≤ 4) = true)
    (hm : r.mnemonic = "FLDC") : Arm r ⟨0x10, ra, rb, rc, imm⟩ (shapeFldc ⟨0x10, ra, rb, rc, imm⟩) where
  command i hi := by
    obtain ⟨_, hb, hc, c, rfl, rfl⟩ := shapeFldc_eq_ok.1 hi
    cases Nat.lt_one_iff.1 hb
    cases Nat.lt_one_iff.1 hc
    exact ⟨rfl, rfl, hm⟩
  accepts := by
    rw [hr, decide_eq_true_eq]
    constructor
    · rintro ⟨i, hi⟩
      obtain ⟨ha, hb, hc, c, rfl, -⟩ := shapeFldc_eq_ok.1 hi
      have hle := exists_constImm_iff.1 ⟨c, rfl⟩
      exact ⟨⟨ha, hb, hc, Nat.lt_of_le_of_lt hle (by decide)⟩, hle⟩
    · rintro ⟨⟨ha, hb, hc, -⟩, hi⟩
      obtain ⟨c, hc'⟩ := exists_constImm_iff.2 hi
      exact ⟨_, shapeFldc_eq_ok.2 ⟨ha, hb, hc, c, hc', rfl⟩⟩

theorem arm_xget {r : OpcodeRow} {ra rb rc imm : Nat}
    (hr : Admits r ⟨0x04, ra, rb, rc, imm⟩ ↔ Bounded ⟨0x04, ra, rb, rc, imm⟩ 32 32 32 4 ∧ further ⟨0x04, ra, rb, rc, imm⟩ = true)
    (hm : r.mnemonic = "XGET") : Arm r ⟨0x04, ra, rb, rc, imm⟩ (shapeXget ⟨0x04, ra, rb, rc, imm⟩) where
  command i hi := by
    obtain ⟨_, src, hsrc, rfl⟩ := shapeXget_eq_ok.1 hi
    exact ⟨rfl, by rw [encodeFields_xget, hsrc], hm⟩
  accepts := by
    have hfurther : further ⟨0x04, ra, rb, rc, imm⟩ = true ↔ rb ≤ 4 ∧ rc < classRegs rb ∧ imm < classComps rb := by
      simp only [further, Bool.and_eq_true, decide_eq_true_eq, and_assoc]
    rw [hr, hfurther, ← exists_componentFields_iff]
    constructor
    · rintro ⟨i, hi⟩
      obtain ⟨ha, src, hsrc, -⟩ := shapeXget_eq_ok.1 hi
      obtain ⟨hcls, hreg, hcomp⟩ := componentFields_lt src
      rw [hsrc] at hcls hreg hcomp
      exact ⟨⟨ha, hcls, hreg, hcomp⟩, src, hsrc⟩
    · rintro ⟨⟨ha, -⟩, src, hsrc⟩
      exact ⟨_, shapeXget_eq_ok.2 ⟨ha, src, hsrc, rfl⟩⟩

/-- Every OPC with a row is one of the decoder's alternatives. -/
theorem opcodes_eq : opcodeRows.map (fun r => (rowBounds r).opc) = [
    0x00, 0x01, 0x03, 0x04, 0x10, 0x11, 0x12, 0x13, 0x14, 0x15, 0x16, 0x17, 0x18, 0x19, 0x1A, 0x1B, 0x1C, 0x1D, 0x1E, 0x1F,
    0x20, 0x21, 0x24, 0x25, 0x26, 0x27, 0x30, 0x31, 0x32, 0x33, 0x34, 0x35, 0x36, 0x37, 0x38, 0x39, 0x3A, 0x3B, 0x3C, 0x40,
    0x41, 0x42, 0x43, 0x44, 0x45, 0x46, 0x47, 0x48, 0x49, 0x50, 0x51, 0x52, 0x53, 0x54, 0x55, 0x56, 0x57, 0x58, 0x59, 0x5A,
    0x60, 0x61, 0x62, 0x63, 0x64, 0x65, 0x66, 0x67, 0x68, 0x69, 0x6A, 0x6B, 0x6C, 0x6D, 0x70, 0x71, 0x72, 0x73, 0x74] := by
  decide +kernel

theorem mem_opcodes_of_rowAt {c : Nat} {r : OpcodeRow} (h : rowAt c = some r) : c ∈ opcodeRows.map fun r => (rowBounds r).opc := by
  have hc : (rowBounds r).opc = c := beq_iff_eq.1 (List.find?_some (p := fun r => (rowBounds r).opc == c) h)
  exact hc ▸ List.mem_map_of_mem (mem_of_rowAt h)

/-- The decoder takes the arm of the row of the OPC, or there is no such row. The tags are the decoder's alternatives in their
order, which is that of the table. -/
theorem decodeFields_arm {f : Fields} (himm : f.imm < 2 ^ 9) :
    (∃ r, rowAt f.opc = some r ∧ Arm r f (decodeFields f)) ∨
      rowAt f.opc = none ∧ decodeFields f = .error .unassignedOpcode := by
  obtain ⟨opc, ra, rb, rc, imm⟩ := f
  unfold decodeFields
  dsimp only at himm ⊢
  split
  case h_80 =>
    refine .inr ⟨Option.eq_none_iff_forall_ne_some.2 fun r hrow => ?_, rfl⟩
    have hmem := opcodes_eq ▸ mem_opcodes_of_rowAt hrow
    simp only [List.mem_cons, List.not_mem_nil, or_false] at hmem
    grind
  all_goals refine .inl ⟨_, rfl, ?_⟩
  -- NOP
  case h_1 =>
    refine arm_of_eq_ok (fun _ => shapeNop_eq_ok) (admits_iff_bounded rfl rfl) fun ⟨ha, hb, hc, hi⟩ => ⟨rfl, ?_, rfl⟩
    cases Nat.lt_one_iff.1 ha
    cases Nat.lt_one_iff.1 hb
    cases Nat.lt_one_iff.1 hc
    cases Nat.lt_one_iff.1 hi
    rfl
  -- PIDENT, PGEN
  case h_61 | h_62 =>
    refine arm_of_eq_ok (fun _ => shapeA_eq_ok) (admits_iff_bounded rfl rfl) fun ⟨_, hb, hc, hi⟩ => ⟨rfl, ?_, rfl⟩
    cases Nat.lt_one_iff.1 hb
    cases Nat.lt_one_iff.1 hc
    cases Nat.lt_one_iff.1 hi
    rfl
  -- two operands, in RA and RB
  case h_6 | h_9 | h_11 | h_12 | h_13 | h_14 | h_15 | h_16 | h_18 | h_23 | h_24 | h_25 | h_26 | h_27 | h_30 | h_32 | h_34 | h_35 |
      h_36 | h_37 | h_38 | h_40 | h_41 | h_42 | h_43 | h_44 | h_49 | h_50 | h_53 | h_58 | h_63 | h_64 | h_65 | h_66 | h_69 |
      h_71 | h_72 | h_76 =>
    refine arm_of_eq_ok (fun _ => shapeAB_eq_ok) (admits_iff_bounded rfl rfl) fun ⟨_, _, hc, hi⟩ => ⟨rfl, ?_, rfl⟩
    cases Nat.lt_one_iff.1 hc
    cases Nat.lt_one_iff.1 hi
    rfl
  -- PEXT and PSETEXT: four field registers from the 29th on at most, which the mask does not say (R272, R273)
  case h_73 =>
    refine arm_of_eq_ok (fun _ => shapeAB_eq_ok) (Iff.trans (admits_iff rfl) ?_) fun ⟨_, _, hc, hi⟩ => ⟨rfl, ?_, rfl⟩
    · exact ⟨fun ⟨h, ha⟩ => ⟨Nat.lt_succ_of_le (of_decide_eq_true ha), h.rb, h.rc, h.imm⟩,
        fun h => ⟨⟨Nat.lt_trans h.ra (by decide), h.rb, h.rc, h.imm⟩, decide_eq_true (Nat.le_of_lt_succ h.ra)⟩⟩
    · cases Nat.lt_one_iff.1 hc
      cases Nat.lt_one_iff.1 hi
      rfl
  case h_74 =>
    refine arm_of_eq_ok (fun _ => shapeAB_eq_ok) (Iff.trans (admits_iff rfl) ?_) fun ⟨_, _, hc, hi⟩ => ⟨rfl, ?_, rfl⟩
    · exact ⟨fun ⟨h, hb⟩ => ⟨h.ra, Nat.lt_succ_of_le (of_decide_eq_true hb), h.rc, h.imm⟩,
        fun h => ⟨⟨h.ra, Nat.lt_trans h.rb (by decide), h.rc, h.imm⟩, decide_eq_true (Nat.le_of_lt_succ h.rb)⟩⟩
    · cases Nat.lt_one_iff.1 hc
      cases Nat.lt_one_iff.1 hi
      rfl
  -- three operands, in RA, RB and RC
  case h_7 | h_8 | h_10 | h_19 | h_28 | h_29 | h_31 | h_33 | h_45 | h_46 | h_47 | h_48 | h_67 | h_68 | h_70 | h_75 =>
    refine arm_of_eq_ok (fun _ => shapeABC_eq_ok) (admits_iff_bounded rfl rfl) fun ⟨_, _, _, hi⟩ => ⟨rfl, ?_, rfl⟩
    cases Nat.lt_one_iff.1 hi
    rfl
  -- DGST, FSWAP, FCNEG
  case h_3 | h_21 | h_22 =>
    refine arm_of_eq_ok (fun _ => shapeABI_eq_ok) (admits_iff_bounded rfl rfl) fun ⟨_, _, hc, _⟩ => ⟨rfl, ?_, rfl⟩
    cases Nat.lt_one_iff.1 hc
    rfl
  -- FSQRTR, FSEL, LTSEL, ATSEL, BTSEL, PVDSBM
  case h_17 | h_20 | h_51 | h_54 | h_56 | h_77 =>
    exact arm_of_eq_ok (fun _ => shapeABCI_eq_ok) (admits_iff_bounded rfl rfl) fun _ => ⟨rfl, rfl, rfl⟩
  -- KSET
  case h_2 =>
    refine arm_of_eq_ok (fun _ => shapeKset_eq_ok) (admits_iff_bounded rfl rfl) fun ⟨_, hb, hc, hi⟩ => ⟨rfl, ?_, rfl⟩
    cases Nat.lt_one_iff.1 hb
    cases Nat.lt_one_iff.1 hc
    dsimp only at hi
    interval_cases imm <;> rfl
  -- LTSELI, ATSELI, BTSELI
  case h_52 | h_55 | h_57 =>
    refine arm_of_eq_ok (fun _ => shapeABDigit_eq_ok himm) (admits_iff rfl) fun ⟨⟨_, _, hc, _⟩, hx⟩ => ⟨hx, ?_, rfl⟩
    cases Nat.lt_one_iff.1 hc
    simp only [encodeFields, digitImm_sextImm himm]
  -- SNAF
  case h_39 =>
    refine arm_of_eq_ok (fun _ => shapeSnaf_eq_ok) (admits_iff rfl) fun ⟨⟨_, _, hc, _⟩, hw⟩ => ⟨hw, ?_, rfl⟩
    cases Nat.lt_one_iff.1 hc
    rfl
  -- NTSEL
  case h_59 =>
    refine arm_of_eq_ok (fun _ => shapeNtsel_eq_ok) (admits_iff rfl) fun ⟨⟨_, _, hc, _⟩, hm⟩ => ⟨hm, ?_, rfl⟩
    cases Nat.lt_one_iff.1 hc
    rfl
  -- BNSEL
  case h_60 =>
    refine arm_of_eq_ok (fun _ => shapeBnsel_eq_ok) (admits_iff rfl) fun ⟨⟨_, hb, hc, _⟩, hm⟩ => ⟨hm, ?_, rfl⟩
    cases Nat.lt_one_iff.1 hb
    cases Nat.lt_one_iff.1 hc
    rfl
  -- PMSM, PVMSM
  case h_78 | h_79 =>
    exact arm_of_eq_ok (fun _ => shapePairs_eq_ok) (Iff.trans (admits_iff rfl) exists_prop.symm) fun h => ⟨h.snd, rfl, rfl⟩
  -- FLDC
  case h_5 => exact arm_fldc (admits_iff rfl) rfl
  -- XGET
  case h_4 => exact arm_xget (admits_iff rfl) rfl

/-- Each command's arm answers it from its fields. -/
theorem decodeFields_encodeFields {i : Instr} (hwf : i.wellFormed = true) : decodeFields (encodeFields i) = .ok i := by
  obtain ⟨-, -, -, -, himm⟩ := encodeFields_within hwf
  cases i with
  | nop => rfl
  | pident | pgen => exact shapeA_eq_ok.2 ⟨⟨Fin.isLt _, Nat.one_pos, Nat.one_pos, Nat.one_pos⟩, rfl⟩
  | fmov | fneg | fsqr | fmul32 | fcarry | freduce | finv | fpow | fisneg | fsetb | fgetb | fldl | fstl | smov | sneg | sinv |
    ssetc | ssetu | ssetcl | sgetb | srdx16 | jfromp | jfromc | pfromc | qfromp | afromp | cdbl | ltbuild | atbuild | ntbuild |
    pmov | psetb | pgetb | pgetm | pneg | pmul8 | pmull | pext | psetext | pbmul =>
    exact shapeAB_eq_ok.2 ⟨⟨Fin.isLt _, Fin.isLt _, Nat.one_pos, Nat.one_pos⟩, rfl⟩
  | fadd | fsub | fmul | feq | sadd | ssub | smul | seq | cadd | csub | cadda | csuba | padd | psub | peq | psmul =>
    exact shapeABC_eq_ok.2 ⟨⟨Fin.isLt _, Fin.isLt _, Fin.isLt _, Nat.one_pos⟩, rfl⟩
  | dgst | fswap | fcneg => exact shapeABI_eq_ok.2 ⟨⟨Fin.isLt _, Fin.isLt _, Nat.one_pos, Fin.isLt _⟩, rfl⟩
  | fsqrtr | fsel | ltsel | atsel | btsel | pvdsbm =>
    exact shapeABCI_eq_ok.2 ⟨⟨Fin.isLt _, Fin.isLt _, Fin.isLt _, Fin.isLt _⟩, rfl⟩
  | kset d bit =>
    refine shapeKset_eq_ok.2 ⟨⟨Fin.isLt _, Nat.one_pos, Nat.one_pos, Bool.toNat_lt bit⟩, ?_⟩
    cases bit <;> rfl
  | ltseli | atseli | btseli =>
    have hdigit := sextImm_digitImm hwf
    exact (shapeABDigit_eq_ok himm).2 ⟨⟨⟨Fin.isLt _, Fin.isLt _, Nat.one_pos, himm⟩, hdigit.symm ▸ hwf⟩, by
      simp only [encodeFields, hdigit]⟩
  | snaf => exact shapeSnaf_eq_ok.2 ⟨⟨⟨Fin.isLt _, Fin.isLt _, Nat.one_pos, legalNafWidth_lt hwf⟩, hwf⟩, rfl⟩
  | ntsel =>
    exact shapeNtsel_eq_ok.2 ⟨⟨⟨Fin.isLt _, Fin.isLt _, Nat.one_pos, Nat.lt_succ_of_le (legalOdd_le hwf)⟩, hwf⟩, rfl⟩
  | bnsel => exact shapeBnsel_eq_ok.2 ⟨⟨⟨Fin.isLt _, Nat.one_pos, Nat.one_pos, Nat.lt_succ_of_le (legalOdd_le hwf)⟩, hwf⟩, rfl⟩
  | pmsm | pvmsm =>
    exact shapePairs_eq_ok.2 ⟨⟨⟨Fin.isLt _, Fin.isLt _, Fin.isLt _, Nat.lt_of_le_of_lt (legalPairs_le hwf) (by decide)⟩, hwf⟩, rfl⟩
  | fldc d c => exact shapeFldc_eq_ok.2 ⟨d.isLt, Nat.one_pos, Nat.one_pos, c, rfl, rfl⟩
  | xget d src =>
    rw [encodeFields_xget]
    exact shapeXget_eq_ok.2 ⟨d.isLt, src, rfl, rfl⟩

/-! ## The obligations -/

/-- Settles O1: the fields of the encoding are the command's, and the arm of its OPC answers it from them. -/
theorem decodeEncode : Obligations.DecodeEncode := by
  unfold Obligations.DecodeEncode
  intro i hwf
  rw [decode, encode, fieldsOf_packFields (encodeFields_within hwf), decodeFields_encodeFields hwf]

theorem decode_arm (w : Word32) : (∃ r, rowAt (fieldsOf w).opc = some r ∧ Arm r (fieldsOf w) (decode w)) ∨
    rowAt (fieldsOf w).opc = none ∧ decode w = .error .unassignedOpcode := by
  obtain ⟨-, -, -, -, himm⟩ := fieldsOf_within w
  exact decodeFields_arm himm

/-- What a word decodes to: a well-formed command whose encoding is the word, of a row that covers the word. -/
theorem command_of_decode {w : Word32} {i : Instr} (h : decode w = .ok i) :
    i.wellFormed = true ∧ encode i = w ∧ ∃ r ∈ opcodeRows, r.mnemonic = mnemonicOf i ∧ r.covers w = true := by
  obtain ⟨r, hrow, harm⟩ | ⟨-, herr⟩ := decode_arm w
  · obtain ⟨hwf, henc, hname⟩ := harm.command i h
    have hr := mem_of_rowAt hrow
    exact ⟨hwf, by rw [encode, henc, packFields_fieldsOf], r, hr, hname, (covers_iff_admits hr w).2 (harm.accepts.1 ⟨i, h⟩)⟩
  · cases herr.symm.trans h

theorem decodes_of_covers {w : Word32} (h : ∃ r ∈ opcodeRows, r.covers w = true) : ∃ i, decode w = .ok i := by
  obtain ⟨r, hrow, hadm⟩ := (exists_covers_iff w).1 h
  obtain ⟨r', hrow', harm⟩ | ⟨hnone, -⟩ := decode_arm w
  · cases hrow.symm.trans hrow'
    exact harm.accepts.2 hadm
  · cases hrow.symm.trans hnone

/-- Settles O2: a word decodes to a command of a row that covers it and is that command's encoding, which gives the injectivity; a
covered word decodes by the arm of its OPC, which no other row has. -/
theorem opcodeTable : Obligations.OpcodeTable := by
  unfold Obligations.OpcodeTable
  refine ⟨fun w => ⟨fun ⟨i, hi⟩ => ?covered, decodes_of_covers⟩, fun w i => command_of_decode, fun w w' i hi hi' => ?injective⟩
  case covered =>
    obtain ⟨-, -, r, hr, -, hcov⟩ := command_of_decode hi
    exact ⟨r, hr, hcov⟩
  case injective =>
    obtain ⟨-, henc, -⟩ := command_of_decode hi
    obtain ⟨-, henc', -⟩ := command_of_decode hi'
    rw [← henc, henc']

/-- Settles O3: each command is well formed and the printed word is its encoding. -/
theorem workedEncodings : Obligations.WorkedEncodings := by
  unfold Obligations.WorkedEncodings
  have hword {w : Word32} {i : Instr} (hwf : i.wellFormed = true) (henc : encode i = w) : decode w = .ok i :=
    henc ▸ decodeEncode i hwf
  exact ⟨hword rfl (by decide), hword rfl (by decide), hword rfl (by decide), hword rfl (by decide), hword (by decide) (by decide),
    hword rfl (by decide), hword (by decide) (by decide)⟩

/-- Settles O27: the words are the encodings of the commands (O1), and each command is a completed write of its destination. -/
theorem fieldArithmetic : Obligations.FieldArithmetic := by
  unfold Obligations.FieldArithmetic
  exact fun s d a b => ⟨⟨decodeEncode (.fmov d a) rfl, rfl⟩, ⟨decodeEncode (.fadd d a b) rfl, rfl⟩,
    ⟨decodeEncode (.fsub d a b) rfl, rfl⟩, ⟨decodeEncode (.fneg d a) rfl, rfl⟩, ⟨decodeEncode (.fmul d a b) rfl, rfl⟩,
    ⟨decodeEncode (.fsqr d a) rfl, rfl⟩, ⟨decodeEncode (.fmul32 d a) rfl, rfl⟩, ⟨decodeEncode (.fcarry d a) rfl, rfl⟩,
    ⟨decodeEncode (.freduce d a) rfl, rfl⟩⟩

/-- Settles O5: the write reaches `command`, which counts the word and raises IllegalCommand. -/
theorem stepIllegalWord : Obligations.StepIllegalWord := by
  unfold Obligations.StepIllegalWord
  intro s w rest e h hd
  rw [step_of_pending h, access_write (by decide) (by decide)]
  change command w (takeAccess rest s) = _
  unfold command
  rw [hd]
  rfl

end Sys2Proof.Proofs

/-! The field unit's results (40_field.md): the exactness of its functions on the domain of R121 (O32 to O37), the encodings and
comparisons (O38, O39), and the commands that set a predicate or depend on one (O28, O29). -/

namespace Sys2Proof.Proofs

open Sys2Proof.Machine Sys2Proof.Laws

/-! ## Sums and products (R122 to R129) -/

/-- Settles O32, by the bounds of each limb with its carry. -/
theorem carryExact : Obligations.CarryExact := by
  unfold Obligations.CarryExact
  exact fun _ => feCarry_exact

/-- Settles O33: each limb-wise result is in the domain of the carry pass. -/
theorem addSubExact : Obligations.AddSubExact := by
  unfold Obligations.AddSubExact
  exact ⟨fun _ _ => feAdd_exact, fun _ _ => feSub_exact, fun _ => feNeg_exact⟩

/-- Settles O34, by the bounds of the columns and `2^255 = 19`. -/
theorem mulExact : Obligations.MulExact := by
  unfold Obligations.MulExact
  exact ⟨fun _ _ => feMul_exact, fun _ => feSqr_exact⟩

theorem feMul_comm (a b : Limbs) : feMul a b = feMul b a := by
  unfold feMul
  dsimp only
  congr 2 <;> ring

/-- Settles O35: the columns agree as natural numbers, before anything is narrowed. -/
theorem squareIsProduct : Obligations.SquareIsProduct := by
  unfold Obligations.SquareIsProduct
  exact ⟨feMul_comm, feSqr_eq_feMul⟩

/-- A column's low part with the high part of the column below it (R126). -/
theorem toNat_foldLow_add_foldHigh (n : Nat) {m : Nat} (hm : m < 2 ^ 111) :
    (foldLow (column n) + foldHigh (column m)).toNat = n % 2 ^ 51 + m / 2 ^ 51 := by
  have lo := toNat_foldLow n
  have hi := toNat_foldHigh (n := m) (by omega)
  rw [toNat_add_lt (by omega), lo, hi]

/-- The lowest column takes the high part of the top one 19 times. -/
theorem toNat_foldLow_add_mul19 (n : Nat) {m : Nat} (hm : m < 2 ^ 107) :
    (foldLow (column n) + 19 * foldHigh (column m)).toNat = n % 2 ^ 51 + 19 * (m / 2 ^ 51) := by
  have lo := toNat_foldLow n
  have hi := toNat_foldHigh (n := m) (by omega)
  have h19 := toNat_mul19_lt (x := foldHigh (column m)) (by omega)
  rw [toNat_add_lt (by omega), h19, lo, hi]

/-- The five products of `fe_mul32` are below `2^84`, so the high parts that are folded are below `2^33`. -/
theorem feMul32_exact {a : Limbs} (y : Word32) (ha : loose a) :
    toField (feMul32 a y) = toField a * (y.toNat : ZMod fieldP) ∧
      (feMul32 a y).l0.toNat < 2 ^ 51 + 19 * 2 ^ 33 ∧ (feMul32 a y).l1.toNat < 2 ^ 51 + 2 ^ 33 ∧
      (feMul32 a y).l2.toNat < 2 ^ 51 + 2 ^ 33 ∧ (feMul32 a y).l3.toNat < 2 ^ 51 + 2 ^ 33 ∧
      (feMul32 a y).l4.toNat < 2 ^ 51 + 2 ^ 33 := by
  obtain ⟨a0, a1, a2, a3, a4⟩ := ha
  have hprod {x : Nat} (hx : x ≤ 2 ^ 52 - 1) : x * y.toNat < 2 ^ 84 :=
    lt_of_le_of_lt (Nat.mul_le_mul hx (Nat.le_sub_one_of_lt y.isLt)) (by decide)
  have p0 := hprod a0
  have p1 := hprod a1
  have p2 := hprod a2
  have p3 := hprod a3
  have p4 := hprod a4
  have e0 := toNat_foldLow_add_mul19 (a.l0.toNat * y.toNat) (p4.trans (by decide))
  have e1 := toNat_foldLow_add_foldHigh (a.l1.toNat * y.toNat) (p0.trans (by decide))
  have e2 := toNat_foldLow_add_foldHigh (a.l2.toNat * y.toNat) (p1.trans (by decide))
  have e3 := toNat_foldLow_add_foldHigh (a.l3.toNat * y.toNat) (p2.trans (by decide))
  have e4 := toNat_foldLow_add_foldHigh (a.l4.toNat * y.toNat) (p3.trans (by decide))
  have hval : val (feMul32 a y) + a.l4.toNat * y.toNat / 2 ^ 51 * fieldP = val a * y.toNat := by
    simp only [val, feMul32, e0, e1, e2, e3, e4, fieldP, Nat.add_mul, Nat.mul_right_comm _ (2 ^ _) y.toNat]
    omega
  refine ⟨?_, ?_⟩
  · rw [toField, toField, ← Nat.cast_mul, ← hval, Nat.cast_add, Nat.cast_mul, ZMod.natCast_self, mul_zero, add_zero]
  · simp only [feMul32, e0, e1, e2, e3, e4]
    omega

/-- Settles O36. -/
theorem mul32Exact : Obligations.Mul32Exact := by
  unfold Obligations.Mul32Exact
  exact fun _ y => feMul32_exact y

theorem inDomain_mul32 {a : Limbs} (y : Word32) (ha : loose a) : inDomain (feMul32 a y) := by
  obtain ⟨-, h0, h1, h2, h3, h4⟩ := feMul32_exact y ha
  refine ⟨⟨?_, ?_, ?_, ?_, ?_⟩, ⟨?_, ?_, ?_, ?_, ?_⟩⟩ <;> omega

/-! ## The canonical form (R131) -/

theorem feReduce_le (l : Limbs) : (feReduce l).le (2 ^ 51 - 1) (2 ^ 51 - 1) := by
  have h (x : U64) : (x &&& mask51).toNat ≤ 2 ^ 51 - 1 := by
    rw [toNat_and_mask51]
    exact Nat.le_sub_one_of_lt (Nat.mod_lt _ (by decide))
  exact ⟨h _, h _, h _, h _, h _⟩

/-- Limbs of 51 bits are the split of their value. -/
theorem limbs_val {l : Limbs} (h : l.le (2 ^ 51 - 1) (2 ^ 51 - 1)) : limbs (val l) = l := by
  obtain ⟨l0, l1, l2, l3, l4⟩ := l
  obtain ⟨h0, h1, h2, h3, h4⟩ := h
  dsimp only at h0 h1 h2 h3 h4
  have hlimb {i : Nat} {x : U64} (hx : val ⟨l0, l1, l2, l3, l4⟩ / 2 ^ (51 * i) % 2 ^ 51 = x.toNat) :
      limbOf (val ⟨l0, l1, l2, l3, l4⟩) i = x := BitVec.eq_of_toNat_eq ((toNat_limbOf _ i).trans hx)
  simp only [limbs, Limbs.mk.injEq]
  refine ⟨hlimb ?_, hlimb ?_, hlimb ?_, hlimb ?_, hlimb ?_⟩ <;> simp only [val] <;> omega

theorem feReduce_eq_limbs {l : Limbs} (h : carryok l) : feReduce l = limbs (val l % fieldP) := by
  rw [← feReduce_val h, limbs_val (feReduce_le l)]

theorem fieldP_pos : 0 < fieldP := by decide

/-- Settles O37: the limbs are masked to 51 bits and their value is `val l mod p`; below p that value is the vector itself. -/
theorem reduceCanonical : Obligations.ReduceCanonical := by
  unfold Obligations.ReduceCanonical
  refine ⟨fun l h => ⟨⟨feReduce_le l, ?_⟩, feReduce_val h⟩, fun l ⟨hle, hlt⟩ => ?_⟩
  · rw [feReduce_val h]
    exact Nat.mod_lt _ fieldP_pos
  · have hok : carryok l := by
      obtain ⟨h0, h1, h2, h3, h4⟩ := hle
      refine ⟨?_, ?_, ?_, ?_, ?_⟩ <;> omega
    rw [feReduce_eq_limbs hok, Nat.mod_eq_of_lt hlt, limbs_val hle]

theorem inDomain_limbs (v : Nat) : inDomain (limbs v) := inDomain_of_tight (tight_limbs v)

theorem inDomain_reduce {l : Limbs} (h : carryok l) : inDomain (feReduce l) := by
  rw [feReduce_eq_limbs h]
  exact inDomain_limbs _

/-! ## Encodings and comparisons (R132 to R135, R162) -/

/-- A byte string is the encoding of its integer (R10). -/
theorem bytesLE_leNat (b : List Byte) : bytesLE (leNat b) b.length = b := by
  induction b with
  | nil => rfl
  | cons x b ih =>
    have hx := x.isLt
    have hdiv : leNat (x :: b) / 256 = leNat b := by
      rw [leNat]
      omega
    have hbyte : BitVec.ofNat 8 (leNat (x :: b)) = x := BitVec.eq_of_toNat_eq (by
      rw [leNat, BitVec.toNat_ofNat]
      omega)
    rw [List.length_cons, bytesLE, hdiv, hbyte, ih]

/-- Byte strings of one length are equal if their integers are. -/
theorem eq_of_leNat_eq {b c : List Byte} (hlen : b.length = c.length) (h : leNat b = leNat c) : b = c := by
  rw [← bytesLE_leNat b, ← bytesLE_leNat c, hlen, h]

theorem mod_fieldP_lt_255 (n : Nat) : n % fieldP < 2 ^ 255 := (Nat.mod_lt n fieldP_pos).trans (by decide)

theorem feSetBytes_feBytes {l : Limbs} (h : carryok l) : feSetBytes (feBytes l) = feReduce l := by
  rw [feSetBytes, leNat_feBytes h, Nat.mod_eq_of_lt (mod_fieldP_lt_255 _), feReduce_eq_limbs h]

theorem carryok_limbs (v : Nat) : carryok (limbs v) := carryok_of_loose (inDomain_limbs v).1

theorem leNat_feBytes_feSetBytes (b : List Byte) : leNat (feBytes (feSetBytes b)) = leNat b % 2 ^ 255 % fieldP := by
  rw [feSetBytes, leNat_feBytes (carryok_limbs _), val_limbs (Nat.mod_lt _ (by decide))]

/-- Settles O38: both directions by the integers the strings and the vectors stand for. -/
theorem fieldBytes : Obligations.FieldBytes := by
  unfold Obligations.FieldBytes
  refine ⟨fun l h => ⟨length_feBytes l, feSetBytes_feBytes h⟩, fun b _ => leNat_feBytes_feSetBytes b, fun b hlen hlt => ?_⟩
  refine eq_of_leNat_eq ((length_feBytes _).trans hlen.symm) ?_
  rw [leNat_feBytes_feSetBytes, Nat.mod_eq_of_lt (hlt.trans (by decide)), Nat.mod_eq_of_lt hlt]

theorem feIsNeg_eq {l : Limbs} (h : carryok l) : feIsNeg l = (val l % fieldP % 2 == 1) := by rw [feIsNeg, feReduce_val h]

/-- Settles O39: the canonical value decides both. -/
theorem fieldCompare : Obligations.FieldCompare := by
  unfold Obligations.FieldCompare
  exact ⟨fun _ _ => feEq_iff, fun _ h => by rw [feIsNeg_eq h, beq_iff_eq]⟩

/-! ## Commands (R140, R150 to R157) -/

/-- Settles O28: the constants are the splits of the printed integers, and every command is a completed write of its result. -/
theorem fieldFunctions : Obligations.FieldFunctions := by
  unfold Obligations.FieldFunctions
  have hd : feD = ⟨929955233495203, 466365720129213, 1662059464998953, 2033849074728123, 1442794654840575⟩ := by decide
  have hd2 : feD2 = ⟨1859910466990425, 932731440258426, 1072319116312658, 1815898335770999, 633789495995903⟩ := by decide
  have hi : feSqrtM1 = ⟨1718705420411056, 234908883556509, 2233514472574048, 2117202627021982, 765476049583133⟩ := by decide
  refine fun s => ⟨fun d => ⟨rfl, rfl, ?_, ?_, ?_⟩, fun _ _ => rfl, fun _ _ => rfl, fun _ _ _ _ => rfl, fun _ _ => rfl,
    fun _ _ _ => rfl⟩
  · rw [← hd]; rfl
  · rw [← hd2]; rfl
  · rw [← hi]; rfl

theorem feCneg_eq (a : Limbs) (c : Bool) : feCneg a c = if c then feNeg a else a := feSel_eq _ _ c

/-- What FSWAP leaves of the field registers. -/
theorem swapF_eq (F : Vector Limbs 32) (a b : Fin 32) (c : Bool) :
    (F.set a (feSwap F[a] F[b] c).1).set b (feSwap F[a] F[b] c).2 = if c = true then (F.set a F[b]).set b F[a] else F := by
  rw [feSwap_eq]
  cases c
  · simp
  · rfl

/-- Settles O29: the masked forms are the conditionals, and exchanging a register with itself writes back what it holds. -/
theorem fieldConditional : Obligations.FieldConditional := by
  unfold Obligations.FieldConditional
  refine fun s => ⟨fun d a b c => ?_, fun a b c => ?swap, fun a c => ?self, fun d a c => ?_⟩
  · rw [← feSel_eq]; rfl
  case swap => rw [← swapF_eq]; rfl
  case self =>
    have hself : (s.F.set a (feSwap s.F[a] s.F[a] s.K[c]).1).set a (feSwap s.F[a] s.F[a] s.K[c]).2 = s.F := by
      rw [swapF_eq]
      split <;> simp
    calc exec (.fswap a a c) s
        = .next { s with
            F := (s.F.set a (feSwap s.F[a] s.F[a] s.K[c]).1).set a (feSwap s.F[a] s.F[a] s.K[c]).2, LASTERR := 0 } := rfl
      _ = .next { s with LASTERR := 0 } := by rw [hself]
  · rw [← feCneg_eq]; rfl

end Sys2Proof.Proofs

/-! The prime p (R16), by Lucas's criterion: 2 has order `p − 1`. The large prime factors of `p − 1` are certified alike, down to
factors that trial division settles; each is named by its size. And Euler's criterion for `d`. -/

namespace Sys2Proof.Proofs

open Sys2Proof.Machine

/-- Lucas's criterion, with the factors of `p − 1` and their exponents as a list. -/
theorem prime_of_lucas {p : Nat} (a : ZMod p) (l : List (Nat × Nat)) (hprod : (l.map fun f => f.1 ^ f.2).prod = p - 1)
    (hprime : l.Forall fun f => f.1.Prime) (ha : a ^ (p - 1) = 1) (hord : l.Forall fun f => a ^ ((p - 1) / f.1) ≠ 1) :
    p.Prime := by
  rw [List.forall_iff_forall_mem] at hprime hord
  refine lucas_primality p a ha fun q hq hdvd => ?_
  obtain ⟨r, hr, hqr⟩ := hq.prime.dvd_prod_iff.1 (hprod ▸ hdvd)
  obtain ⟨f, hf, rfl⟩ := List.mem_map.1 hr
  obtain rfl := (Nat.prime_dvd_prime_iff_eq hq (hprime f hf)).1 (hq.dvd_of_dvd_pow hqr)
  exact hord f hf

theorem prime_32bit : Nat.Prime 2773320623 := by
  refine prime_of_lucas 5 [(2, 1), (2437, 1), (569003, 1)] (by norm_num) ?_ ?_ ?_
  · exact ⟨by norm_num, by norm_num, by norm_num⟩
  · simp only [Nat.reduceSub]
    reduce_mod_char
  · simp only [List.Forall, Nat.reduceSub, Nat.reduceDiv]
    and_intros <;> (reduce_mod_char; decide)

theorem prime_37bit : Nat.Prime 72106336199 := by
  refine prime_of_lucas 7 [(2, 1), (13, 1), (2773320623, 1)] (by norm_num) ?_ ?_ ?_
  · exact ⟨by norm_num, by norm_num, prime_32bit⟩
  · simp only [Nat.reduceSub]
    reduce_mod_char
  · simp only [List.Forall, Nat.reduceSub, Nat.reduceDiv]
    and_intros <;> (reduce_mod_char; decide)

theorem prime_51bit : Nat.Prime 1919519569386763 := by
  refine prime_of_lucas 2 [(2, 1), (3, 1), (7, 1), (19, 1), (47, 2), (127, 1), (8574133, 1)] (by norm_num) ?_ ?_ ?_
  · exact ⟨by norm_num, by norm_num, by norm_num, by norm_num, by norm_num, by norm_num, by norm_num⟩
  · simp only [Nat.reduceSub]
    reduce_mod_char
  · simp only [List.Forall, Nat.reduceSub, Nat.reduceDiv]
    and_intros <;> (reduce_mod_char; decide)

theorem prime_55bit : Nat.Prime 31757755568855353 := by
  refine prime_of_lucas 10 [(2, 3), (3, 1), (31, 1), (107, 1), (223, 1), (4153, 1), (430751, 1)] (by norm_num) ?_ ?_ ?_
  · exact ⟨by norm_num, by norm_num, by norm_num, by norm_num, by norm_num, by norm_num, by norm_num⟩
  · simp only [Nat.reduceSub]
    reduce_mod_char
  · simp only [List.Forall, Nat.reduceSub, Nat.reduceDiv]
    and_intros <;> (reduce_mod_char; decide)

theorem prime_116bit : Nat.Prime 75445702479781427272750846543864801 := by
  refine prime_of_lucas 7 [(2, 5), (3, 2), (5, 2), (75707, 1), (72106336199, 1), (1919519569386763, 1)] (by norm_num) ?_ ?_ ?_
  · exact ⟨by norm_num, by norm_num, by norm_num, by norm_num, prime_37bit, prime_51bit⟩
  · simp only [Nat.reduceSub]
    reduce_mod_char
  · simp only [List.Forall, Nat.reduceSub, Nat.reduceDiv]
    and_intros <;> (reduce_mod_char; decide)

theorem prime_236bit : Nat.Prime 74058212732561358302231226437062788676166966415465897661863160754340907 := by
  refine prime_of_lucas 2 [(2, 1), (3, 1), (353, 1), (57467, 1), (132049, 1), (1923133, 1), (31757755568855353, 1),
    (75445702479781427272750846543864801, 1)] (by norm_num) ?_ ?_ ?_
  · exact ⟨by norm_num, by norm_num, by norm_num, by norm_num, by norm_num, by norm_num, prime_55bit, prime_116bit⟩
  · simp only [Nat.reduceSub]
    reduce_mod_char
  · simp only [List.Forall, Nat.reduceSub, Nat.reduceDiv]
    and_intros <;> (reduce_mod_char; decide)

theorem fieldP_eq : fieldP = 57896044618658097711785492504343953926634992332820282019728792003956564819949 := by decide

theorem prime_fieldP : Nat.Prime fieldP := by
  rw [fieldP_eq]
  refine prime_of_lucas 2 [(2, 2), (3, 1), (65147, 1),
    (74058212732561358302231226437062788676166966415465897661863160754340907, 1)] (by norm_num) ?_ ?_ ?_
  · exact ⟨by norm_num, by norm_num, by norm_num, prime_236bit⟩
  · simp only [Nat.reduceSub]
    reduce_mod_char
  · simp only [List.Forall, Nat.reduceSub, Nat.reduceDiv]
    and_intros <;> (reduce_mod_char; decide)

/-- `d` is no square, by Euler's criterion (R18). -/
theorem dField_not_isSquare : ¬ IsSquare dField := by
  have := Fact.mk prime_fieldP
  have hpow (n : Nat) (hn : n = 57896044618658097711785492504343953926634992332820282019728792003956564819949) :
      (curveD : ZMod n) ^ (n / 2) ≠ 1 ∧ (curveD : ZMod n) ≠ 0 := by
    subst hn
    rw [curveD, Nat.cast_ofNat]
    simp only [Nat.reduceDiv]
    refine ⟨?_, by decide⟩
    reduce_mod_char
    decide
  obtain ⟨h1, h0⟩ := hpow fieldP fieldP_eq
  exact fun h => h1 ((ZMod.euler_criterion fieldP h0).1 h)

end Sys2Proof.Proofs

/-! The exponentiation chains (R137, R138): O40; and the square root of a ratio (R139): O41. The chains are read as exponents, so that
their steps are sums of numbers. The root's completeness rests on Euler's criterion. -/

namespace Sys2Proof.Proofs

open Sys2Proof.Machine Sys2Proof.Laws

/-! ## The chains (R137, R138) -/

/-- `l` is a factor `fe_mul` takes and represents `x^e`. -/
def IsPower (x : ZMod fieldP) (e : Nat) (l : Limbs) : Prop := loose l ∧ toField l = x ^ e

section Powers

variable {x : ZMod fieldP} {m n e : Nat} {a b : Limbs}

theorem feMul_power (ha : IsPower x m a) (hb : IsPower x n b) (he : m + n = e) :
    toField (feMul a b) = x ^ e ∧ tight (feMul a b) := by
  obtain ⟨la, va⟩ := ha
  obtain ⟨lb, vb⟩ := hb
  rw [← he, pow_add, ← va, ← vb]
  exact feMul_exact la lb

theorem isPower_mul (ha : IsPower x m a) (hb : IsPower x n b) (he : m + n = e) : IsPower x e (feMul a b) := by
  obtain ⟨hv, ht⟩ := feMul_power ha hb he
  exact ⟨(inDomain_of_tight ht).1, hv⟩

theorem isPower_sqr (ha : IsPower x m a) : IsPower x (m * 2) (feSqr a) := by
  rw [feSqr_eq_feMul]
  exact isPower_mul ha ha (Nat.mul_two m).symm

theorem isPower_sqrN : ∀ (k : Nat) {m : Nat} {a : Limbs}, IsPower x m a → IsPower x (m * 2 ^ k) (feSqrN a k)
  | 0, m, _, ha => by
    rw [pow_zero, Nat.mul_one]
    exact ha
  | k + 1, m, _, ha => by
    rw [pow_succ', ← Nat.mul_assoc]
    exact isPower_sqrN k (isPower_sqr ha)

/-- A link of the chains: square `k` times, then multiply. -/
theorem isPower_link (k : Nat) (ha : IsPower x m a) (hb : IsPower x n b) (he : m * 2 ^ k + n = e) :
    IsPower x e (feMul (feSqrN a k) b) := isPower_mul (isPower_sqrN k ha) hb he

end Powers

/-- The links both chains have in common, from `x^(2^5 − 1)` to `x^(2^250 − 1)`. -/
def links250 (x5_0 : Limbs) : Limbs :=
  let x10_0 := feMul (feSqrN x5_0 5) x5_0
  let x20_0 := feMul (feSqrN x10_0 10) x10_0
  let x40_0 := feMul (feSqrN x20_0 20) x20_0
  let x50_0 := feMul (feSqrN x40_0 10) x10_0
  let x100_0 := feMul (feSqrN x50_0 50) x50_0
  let x200_0 := feMul (feSqrN x100_0 100) x100_0
  feMul (feSqrN x200_0 50) x50_0

theorem isPower_links250 {x : ZMod fieldP} {a : Limbs} (h5_0 : IsPower x (2 ^ 5 - 1) a) :
    IsPower x (2 ^ 250 - 1) (links250 a) := by
  unfold links250
  extract_lets x10_0 x20_0 x40_0 x50_0 x100_0 x200_0
  have h10_0 : IsPower x (2 ^ 10 - 1) x10_0 := isPower_link 5 h5_0 h5_0 (by decide)
  have h20_0 : IsPower x (2 ^ 20 - 1) x20_0 := isPower_link 10 h10_0 h10_0 (by decide)
  have h40_0 : IsPower x (2 ^ 40 - 1) x40_0 := isPower_link 20 h20_0 h20_0 (by decide)
  have h50_0 : IsPower x (2 ^ 50 - 1) x50_0 := isPower_link 10 h40_0 h10_0 (by decide)
  have h100_0 : IsPower x (2 ^ 100 - 1) x100_0 := isPower_link 50 h50_0 h50_0 (by decide)
  have h200_0 : IsPower x (2 ^ 200 - 1) x200_0 := isPower_link 100 h100_0 h100_0 (by decide)
  exact isPower_link 50 h200_0 h50_0 (by decide)

theorem feInv_exact {z : Limbs} (hz : loose z) : toField (feInv z) = toField z ^ (fieldP - 2) ∧ tight (feInv z) := by
  unfold feInv
  extract_lets z2 z9 z11 z5_0 z10_0 z20_0 z40_0 z50_0 z100_0 z200_0 z250_0
  have h1 : IsPower (toField z) 1 z := ⟨hz, (pow_one _).symm⟩
  have h2 : IsPower (toField z) 2 z2 := isPower_sqr h1
  have h9 : IsPower (toField z) 9 z9 := isPower_link 2 h2 h1 (by decide)
  have h11 : IsPower (toField z) 11 z11 := isPower_mul h9 h2 (by decide)
  have h5_0 : IsPower (toField z) (2 ^ 5 - 1) z5_0 := isPower_mul (isPower_sqr h11) h9 (by decide)
  have h250_0 : IsPower (toField z) (2 ^ 250 - 1) z250_0 := isPower_links250 h5_0
  exact feMul_power (isPower_sqrN 5 h250_0) h11 (by decide)

theorem fePow22523_exact {x : Limbs} (hx : loose x) :
    toField (fePow22523 x) = toField x ^ (2 ^ 252 - 3) ∧ tight (fePow22523 x) := by
  unfold fePow22523
  extract_lets x2 x9 x11 x5_0 x10_0 x20_0 x40_0 x50_0 x100_0 x200_0 x250_0
  have h1 : IsPower (toField x) 1 x := ⟨hx, (pow_one _).symm⟩
  have h2 : IsPower (toField x) 2 x2 := isPower_sqr h1
  have h9 : IsPower (toField x) 9 x9 := isPower_mul h1 (isPower_sqrN 2 h2) (by decide)
  have h11 : IsPower (toField x) 11 x11 := isPower_mul h2 h9 (by decide)
  have h5_0 : IsPower (toField x) (2 ^ 5 - 1) x5_0 := isPower_mul h9 (isPower_sqr h11) (by decide)
  have h250_0 : IsPower (toField x) (2 ^ 250 - 1) x250_0 := isPower_links250 h5_0
  exact feMul_power (isPower_sqrN 2 h250_0) h1 (by decide)

/-- Settles O40: every link of a chain adds exponents, and the last product is tight. -/
theorem exponentChains : Obligations.ExponentChains := by
  unfold Obligations.ExponentChains
  exact ⟨fun _ => feInv_exact, fun _ => fePow22523_exact⟩

/-- Inversion on representatives, 0 for 0 (R137). -/
theorem rep_inv {a : Limbs} {x : ZMod fieldP} (ha : Rep a x) : Rep (feInv a) (x ^ (fieldP - 2)) := by
  rw [← ha.value]
  exact rep_of_tight (feInv_exact ha.domain.1)

/-! ## The sign of a field element (R134, R136) -/

/-- The low bit of the canonical value. -/
def signBit (x : ZMod fieldP) : Bool := x.val % 2 == 1

theorem val_toField (l : Limbs) : (toField l).val = val l % fieldP := ZMod.val_natCast _ _

theorem feIsNeg_of_carryok {a : Limbs} (ha : carryok a) : feIsNeg a = signBit (toField a) := by
  rw [feIsNeg_eq ha, signBit, val_toField]

theorem feIsNeg_rep {a : Limbs} {x : ZMod fieldP} (ha : Rep a x) : feIsNeg a = signBit x := by
  rw [feIsNeg_of_carryok ha.carryok, ha.value]

theorem signBit_zero : signBit 0 = false := by rw [signBit, ZMod.val_zero]; rfl

/-- p is odd, so a non-zero element and its negative have different signs. -/
theorem signBit_neg {x : ZMod fieldP} (hx : x ≠ 0) : signBit (-x) = !signBit x := by
  have : NeZero fieldP := ⟨by decide⟩
  have hlt := ZMod.val_lt x
  have hneg : (-x).val = fieldP - x.val := by rw [ZMod.neg_val, if_neg hx]
  have hodd : fieldP % 2 = 1 := by decide
  have hmod : (fieldP - x.val) % 2 = 1 - x.val % 2 := by omega
  rw [signBit, signBit, hneg, hmod]
  obtain h | h := Nat.mod_two_eq_zero_or_one x.val <;> rw [h] <;> rfl

theorem feIsNeg_feAbs {a : Limbs} (ha : inDomain a) : feIsNeg (feAbs a) = false := by
  rw [feAbs, feSel_eq]
  split
  · next hneg =>
    rw [feIsNeg_rep (rep_self ha)] at hneg
    have h0 : toField a ≠ 0 := fun h => by simp [h, signBit_zero] at hneg
    rw [feIsNeg_rep (rep_neg (rep_self ha)), signBit_neg h0, hneg]
    rfl
  · next hpos => exact Bool.eq_false_of_not_eq_true hpos

theorem tight_feAbs {a : Limbs} (ha : tight a) : tight (feAbs a) := by
  rw [feAbs, feSel_eq]
  split
  · exact (feNeg_exact (inDomain_of_tight ha).2).2
  · exact ha

/-! ## The square root of a ratio (R139) -/

/-- The candidate for the root of `x/y`. -/
def rootCandidate (x y : ZMod fieldP) : ZMod fieldP := x * y ^ 3 * (x * y ^ 7) ^ (2 ^ 252 - 3)

/-- `y` times the candidate's square, which `fe_sqrtratio` compares with `x`, `−x` and `−√−1·x`. -/
def rootCheck (x y : ZMod fieldP) : ZMod fieldP := y * rootCandidate x y ^ 2

/-- What `fe_sqrtratio` computes, the denominator only loose: the flag, and the vector whose absolute value is the root. -/
theorem feSqrtRatio_eq {u v : Limbs} {x : ZMod fieldP} (hu : Rep u x) (hv : loose v) :
    ((feSqrtRatio u v).2 = true ↔ rootCheck x (toField v) = x ∨ rootCheck x (toField v) = -x) ∧
      ∃ a, tight a ∧ (feSqrtRatio u v).1 = feAbs a ∧ toField a =
        if rootCheck x (toField v) = -x ∨ rootCheck x (toField v) = -x * sqrtM1Field
        then rootCandidate x (toField v) * sqrtM1Field else rootCandidate x (toField v) := by
  generalize hres : feSqrtRatio u v = res
  unfold feSqrtRatio at hres
  extract_lets v2 uv3 uv7 r check uneg correct flipped flippedI rprime root at hres
  subst hres
  generalize hy : toField v = y
  have h2 : Rep v2 (y ^ 2) := by rw [← hy]; exact rep_of_tight (feSqr_exact hv)
  have h3 : Rep (feMul v2 v) (y ^ 2 * y) := by
    rw [← h2.value, ← hy]
    exact rep_of_tight (feMul_exact h2.domain.1 hv)
  have huv3 : Rep uv3 (x * (y ^ 2 * y)) := rep_mul hu h3
  have huv7 : Rep uv7 (x * y ^ 7) := by
    have h := rep_mul huv3 (rep_sqr h2)
    rwa [show x * (y ^ 2 * y) * (y ^ 2) ^ 2 = x * y ^ 7 by ring] at h
  have hpow : Rep (fePow22523 uv7) ((x * y ^ 7) ^ (2 ^ 252 - 3)) := by
    rw [← huv7.value]
    exact rep_of_tight (fePow22523_exact huv7.domain.1)
  have hr : toField r = rootCandidate x y ∧ tight r := by
    have h := feMul_exact huv3.domain.1 hpow.domain.1
    rwa [huv3.value, hpow.value, ← pow_succ] at h
  have hrr := rep_sqr (rep_of_tight hr)
  have hcheck : Rep check (rootCheck x y) := by
    rw [rootCheck, ← hrr.value, ← hy]
    exact rep_of_tight (feMul_exact hv hrr.domain.1)
  have hcorrect : correct = true ↔ rootCheck x y = x := feEq_rep hcheck hu
  have hflipped : flipped = true ↔ rootCheck x y = -x := feEq_rep hcheck (rep_neg hu)
  have hflippedI : flippedI = true ↔ rootCheck x y = -x * sqrtM1Field := feEq_rep hcheck (rep_mul (rep_neg hu) rep_sqrtM1)
  have hrprime : toField rprime = rootCandidate x y * sqrtM1Field ∧ tight rprime := by
    have h := feMul_exact (rep_of_tight hr).domain.1 rep_sqrtM1.domain.1
    rwa [hr.1, rep_sqrtM1.value] at h
  refine ⟨by rw [Bool.or_eq_true, hcorrect, hflipped], root, ?_, rfl, ?_⟩
  · change tight (feSel rprime r (flipped || flippedI))
    rw [feSel_eq]
    split
    · exact hrprime.2
    · exact hr.2
  · change toField (feSel rprime r (flipped || flippedI)) = _
    rw [feSel_eq, apply_ite toField, hrprime.1, hr.1]
    simp only [Bool.or_eq_true, hflipped, hflippedI]

/-- With `e` the exponent of R139's candidate, its check is `x` times a power of `x·y⁷`. -/
theorem check_eq_mul_pow {R : Type} [CommRing R] (x y : R) (e : Nat) :
    y * (x * y ^ 3 * (x * y ^ 7) ^ e) ^ 2 = x * (x * y ^ 7) ^ (2 * e + 1) := by
  rw [pow_succ _ (2 * e), pow_mul' _ 2 e]
  ring

theorem rootCheck_eq (x y : ZMod fieldP) : rootCheck x y = x * (x * y ^ 7) ^ (2 ^ 253 - 5) := check_eq_mul_pow x y (2 ^ 252 - 3)

theorem rootCheck_of_eq_zero {x y : ZMod fieldP} (h : x = 0 ∨ y = 0) : rootCheck x y = 0 := by
  rcases h with rfl | rfl
  · rw [rootCheck_eq, zero_mul]
  · rw [rootCheck, zero_mul]

/-- `x/y` is a square exactly if `x·y⁷` is. -/
theorem isSquare_mul_pow_iff {x y : ZMod fieldP} (hy : y ≠ 0) : IsSquare (x * y ^ 7) ↔ ∃ z, z ^ 2 * y = x := by
  have := Fact.mk prime_fieldP
  constructor
  · rintro ⟨s, hs⟩
    refine ⟨s / y ^ 4, ?_⟩
    field_simp
    linear_combination -hs
  · rintro ⟨z, rfl⟩
    exact ⟨z * y ^ 4, by ring⟩

/-- Euler's criterion for `x/y`: the check squares to `x²` for a square, to `−x²` otherwise. -/
theorem rootCheck_sq {x y : ZMod fieldP} (hy : y ≠ 0) :
    ((∃ z, z ^ 2 * y = x) → rootCheck x y ^ 2 = x ^ 2) ∧ (¬ (∃ z, z ^ 2 * y = x) → rootCheck x y ^ 2 = -x ^ 2 ∧ x ≠ 0) := by
  have := Fact.mk prime_fieldP
  have hexp : fieldP / 2 = (2 ^ 253 - 5) * 2 := by decide
  have hsq : rootCheck x y ^ 2 = x ^ 2 * (x * y ^ 7) ^ (fieldP / 2) := by rw [rootCheck_eq, mul_pow, ← pow_mul, ← hexp]
  by_cases hx : x = 0
  · subst hx
    exact ⟨fun _ => by rw [hsq]; ring, fun h => absurd ⟨0, by ring⟩ h⟩
  have hw : x * y ^ 7 ≠ 0 := mul_ne_zero hx (pow_ne_zero 7 hy)
  rw [← isSquare_mul_pow_iff hy, ZMod.euler_criterion fieldP hw]
  obtain h | h := ZMod.pow_div_two_eq_neg_one_or_one fieldP hw
  · exact ⟨fun _ => by rw [hsq, h, mul_one], fun hne => absurd h hne⟩
  · exact ⟨fun h1 => by rw [hsq, h1, mul_one], fun _ => ⟨by rw [hsq, h]; ring, hx⟩⟩

theorem neg_one_ne_one : (-1 : ZMod fieldP) ≠ 1 := by
  have := Fact.mk prime_fieldP
  have : Fact (2 < fieldP) := ⟨by decide⟩
  exact ZMod.neg_one_ne_one

/-- The flag says whether the ratio is a square (R139). -/
theorem flag_iff {x y : ZMod fieldP} (hy : y ≠ 0) : rootCheck x y = x ∨ rootCheck x y = -x ↔ ∃ z, z ^ 2 * y = x := by
  have := Fact.mk prime_fieldP
  obtain ⟨hsquare, hnon⟩ := rootCheck_sq (x := x) hy
  rw [← sq_eq_sq_iff_eq_or_eq_neg]
  refine ⟨fun h => not_not.1 fun hne => ?_, hsquare⟩
  obtain ⟨hneg, hx⟩ := hnon hne
  rw [hneg] at h
  exact neg_one_ne_one (mul_right_cancel₀ (pow_ne_zero 2 hx) (by rw [neg_one_mul, one_mul, h]))

/-- The number whose absolute value is the root (R139), in the four cases of the check: it squares to `x/y` when the ratio was a
square, else to `√−1·x/y`. -/
def rootChoice (x y : ZMod fieldP) : ZMod fieldP :=
  if rootCheck x y = -x ∨ rootCheck x y = -x * sqrtM1Field then rootCandidate x y * sqrtM1Field else rootCandidate x y

theorem rootChoice_sq_mul (x y : ZMod fieldP) : rootChoice x y ^ 2 * y =
    if rootCheck x y = -x ∨ rootCheck x y = -x * sqrtM1Field then -rootCheck x y else rootCheck x y := by
  have hi := sqrtM1Field_sq
  rw [rootChoice, rootCheck]
  split
  · rw [mul_pow, hi]
    ring
  · ring

/-- If the check is `x` and `−√−1·x` at once, `x` is 0. -/
theorem rootChoice_of_square {x y : ZMod fieldP} (h : rootCheck x y = x ∨ rootCheck x y = -x) : rootChoice x y ^ 2 * y = x := by
  have hi := sqrtM1Field_sq
  rw [rootChoice_sq_mul]
  generalize rootCheck x y = c at *
  split
  · next hflag =>
    rcases h with h | h
    · rcases hflag with hf | hf
      · linear_combination -hf
      · linear_combination (1 - sqrtM1Field) * (h - hf) - h - x * hi
    · linear_combination -h
  · next hflag => exact h.resolve_right fun hf => hflag (.inl hf)

theorem rootChoice_of_not_square {x y : ZMod fieldP} (hy : y ≠ 0) (h : ¬ (rootCheck x y = x ∨ rootCheck x y = -x)) :
    rootChoice x y ^ 2 * y = sqrtM1Field * x := by
  have := Fact.mk prime_fieldP
  obtain ⟨hsq, -⟩ := (rootCheck_sq hy).2 ((flag_iff hy).not.1 h)
  have hroot : rootCheck x y = x * sqrtM1Field ∨ rootCheck x y = -(x * sqrtM1Field) := by
    rw [← sq_eq_sq_iff_eq_or_eq_neg, hsq, mul_pow, sqrtM1Field_sq]
    ring
  rw [rootChoice_sq_mul]
  split
  · next hflag =>
    have hf := hflag.resolve_left fun hf => h (.inr hf)
    linear_combination -hf
  · next hflag =>
    have hf := hroot.resolve_right fun hf => hflag (.inr (by rw [hf, neg_mul]))
    linear_combination hf

/-- The root and the flag of R139, the denominator only loose. -/
theorem feSqrtRatio_spec {u v : Limbs} {x : ZMod fieldP} (hu : Rep u x) (hv : loose v) :
    ((feSqrtRatio u v).2 = true ↔ rootCheck x (toField v) = x ∨ rootCheck x (toField v) = -x) ∧ tight (feSqrtRatio u v).1 ∧
      feIsNeg (feSqrtRatio u v).1 = false ∧ toField (feSqrtRatio u v).1 ^ 2 = rootChoice x (toField v) ^ 2 := by
  obtain ⟨hflag, a, hta, hroot, hval⟩ := feSqrtRatio_eq hu hv
  have ha := rep_of_tight ⟨hval, hta⟩
  obtain ⟨z, hz, hsq⟩ := feAbs_rep ha
  rw [hroot]
  exact ⟨hflag, tight_feAbs hta, feIsNeg_feAbs ha.domain, by rw [hz.value, hsq]; rfl⟩

/-- Settles O41: the flag is Euler's criterion, and the root's square is known in each of the check's cases. -/
theorem sqrtRatioSound : Obligations.SqrtRatioSound := by
  unfold Obligations.SqrtRatioSound
  have := Fact.mk prime_fieldP
  intro u v hlu hsu hv
  obtain ⟨hflag, htight, hsign, hsq⟩ := feSqrtRatio_spec (rep_self ⟨hlu, hsu⟩) hv
  refine ⟨htight, hsign, fun hwas => ?_, fun hv0 => ⟨hflag.trans (flag_iff hv0), fun hwas => ?_⟩, fun hv0 => ⟨?_, ?_⟩⟩
  · rw [hsq, rootChoice_of_square (hflag.1 hwas)]
  · have hnot := hflag.not.1 (by rw [hwas]; exact Bool.false_ne_true)
    rw [hsq, rootChoice_of_not_square hv0 hnot, rep_sqrtM1.value]
  · have hzero : rootChoice (toField u) (toField v) = 0 := by
      rw [rootChoice, rootCandidate, hv0, zero_pow (by decide), mul_zero, zero_mul, zero_mul, ite_self]
    exact pow_eq_zero_iff two_ne_zero |>.1 (by rw [hsq, hzero]; ring)
  · rw [hflag, rootCheck_of_eq_zero (.inr hv0), eq_comm (a := (0 : ZMod fieldP)),
      eq_comm (a := (0 : ZMod fieldP)), neg_eq_zero, or_self]

end Sys2Proof.Proofs

/-! The exact domain of the field functions is closed under every command (R121, R369): O24. Every point function is a sequence of field
functions, and each of those maps the domain into itself; a command writes such values, copies of registers, or constants. -/

namespace Sys2Proof.Proofs

open Sys2Proof.Machine Sys2Proof.Laws

/-! ## Field functions -/

section Field

variable {a b : Limbs}

theorem inDomain_add (ha : inDomain a) (hb : inDomain b) : inDomain (feAdd a b) := (rep_add (rep_self ha) (rep_self hb)).domain

theorem inDomain_sub (ha : inDomain a) (hb : inDomain b) : inDomain (feSub a b) := (rep_sub (rep_self ha) (rep_self hb)).domain

theorem inDomain_neg (ha : inDomain a) : inDomain (feNeg a) := (rep_neg (rep_self ha)).domain

theorem inDomain_inv (ha : inDomain a) : inDomain (feInv a) := (rep_inv (rep_self ha)).domain

theorem inDomain_carry (ha : inDomain a) : inDomain (feCarry a) := inDomain_of_tight (feCarry_exact (carryok_of_loose ha.1)).2

theorem inDomain_sqrtRatio (ha : inDomain a) (hb : inDomain b) : inDomain (feSqrtRatio a b).1 :=
  have ⟨_, htight, _⟩ := feSqrtRatio_spec (rep_self ha) hb.1
  inDomain_of_tight htight

theorem inDomain_sel (ha : inDomain a) (hb : inDomain b) (c : Bool) : inDomain (feSel a b c) :=
  (rep_sel (rep_self ha) (rep_self hb) c).domain

theorem inDomain_cneg (ha : inDomain a) (c : Bool) : inDomain (feCneg a c) := inDomain_sel (inDomain_neg ha) ha c

theorem inDomain_setBytes (b : List Byte) : inDomain (feSetBytes b) := inDomain_limbs _

theorem inDomain_swap (ha : inDomain a) (hb : inDomain b) (c : Bool) :
    inDomain (feSwap a b c).1 ∧ inDomain (feSwap a b c).2 := by
  rw [feSwap_eq]
  cases c
  · exact ⟨ha, hb⟩
  · exact ⟨hb, ha⟩

theorem inDomain_fieldConst (c : FieldConst) : inDomain (fieldConst c) := by
  cases c with
  | zero => exact rep_zero.domain
  | one => exact rep_one.domain
  | d => exact rep_d.domain
  | d2 => exact rep_d2.domain
  | sqrtm1 => exact rep_sqrtM1.domain

end Field

/-! ## Conversions, the adder and the doubler (R202 to R211) -/

section Coordinates

variable {p u v : P3} {j : P2} {c : P1xP1} {q : ProjCached} {e : AffineCached}

theorem inDomain_p2FromP3 (hp : p.inDomain) : (p2FromP3 p).inDomain :=
  have ⟨hX, hY, hZ, _⟩ := hp
  ⟨hX, hY, hZ⟩

theorem inDomain_p2FromC (hc : c.inDomain) : (p2FromC c).inDomain :=
  have ⟨hX, hY, hZ, hT⟩ := hc
  ⟨inDomain_mul hX hT, inDomain_mul hY hZ, inDomain_mul hZ hT⟩

theorem inDomain_p3FromC (hc : c.inDomain) : (p3FromC c).inDomain :=
  have ⟨hX, hY, hZ, hT⟩ := hc
  ⟨inDomain_mul hX hT, inDomain_mul hY hZ, inDomain_mul hZ hT, inDomain_mul hX hY⟩

theorem inDomain_qFromP3 (hp : p.inDomain) : (qFromP3 p).inDomain :=
  have ⟨hX, hY, hZ, hT⟩ := hp
  ⟨inDomain_add hY hX, inDomain_sub hY hX, hZ, inDomain_mul hT rep_d2.domain⟩

theorem inDomain_aFromP3 (hp : p.inDomain) : (aFromP3 p).inDomain :=
  have ⟨hX, hY, hZ, hT⟩ := hp
  ⟨inDomain_mul (inDomain_add hY hX) (inDomain_inv hZ), inDomain_mul (inDomain_sub hY hX) (inDomain_inv hZ),
    inDomain_mul (inDomain_mul hT rep_d2.domain) (inDomain_inv hZ)⟩

/-- The last step of the four adders: sums and differences of two pairs of terms. -/
theorem inDomain_sums {pp mm zz tt : Limbs} (hp : inDomain pp) (hm : inDomain mm) (hz : inDomain zz) (ht : inDomain tt) :
    inDomain (feSub pp mm) ∧ inDomain (feAdd pp mm) ∧ inDomain (feAdd zz tt) ∧ inDomain (feSub zz tt) :=
  ⟨inDomain_sub hp hm, inDomain_add hp hm, inDomain_add hz ht, inDomain_sub hz ht⟩

theorem inDomain_ptCadd (hp : p.inDomain) (hq : q.inDomain) : (ptCadd p q).inDomain := by
  obtain ⟨hX, hY, hZ, hT⟩ := hp
  obtain ⟨qP, qM, qZ, qT⟩ := hq
  have hzz := inDomain_mul hZ qZ
  exact inDomain_sums (inDomain_mul (inDomain_add hY hX) qP) (inDomain_mul (inDomain_sub hY hX) qM) (inDomain_add hzz hzz)
    (inDomain_mul hT qT)

theorem inDomain_ptCsub (hp : p.inDomain) (hq : q.inDomain) : (ptCsub p q).inDomain := by
  obtain ⟨hX, hY, hZ, hT⟩ := hp
  obtain ⟨qP, qM, qZ, qT⟩ := hq
  have hzz := inDomain_mul hZ qZ
  obtain ⟨h1, h2, h3, h4⟩ := inDomain_sums (inDomain_mul (inDomain_add hY hX) qM) (inDomain_mul (inDomain_sub hY hX) qP)
    (inDomain_add hzz hzz) (inDomain_mul hT qT)
  exact ⟨h1, h2, h4, h3⟩

theorem inDomain_ptCadda (hp : p.inDomain) (he : e.inDomain) : (ptCadda p e).inDomain := by
  obtain ⟨hX, hY, hZ, hT⟩ := hp
  obtain ⟨eP, eM, eT⟩ := he
  exact inDomain_sums (inDomain_mul (inDomain_add hY hX) eP) (inDomain_mul (inDomain_sub hY hX) eM) (inDomain_add hZ hZ)
    (inDomain_mul hT eT)

theorem inDomain_ptCsuba (hp : p.inDomain) (he : e.inDomain) : (ptCsuba p e).inDomain := by
  obtain ⟨hX, hY, hZ, hT⟩ := hp
  obtain ⟨eP, eM, eT⟩ := he
  obtain ⟨h1, h2, h3, h4⟩ := inDomain_sums (inDomain_mul (inDomain_add hY hX) eM) (inDomain_mul (inDomain_sub hY hX) eP)
    (inDomain_add hZ hZ) (inDomain_mul hT eT)
  exact ⟨h1, h2, h4, h3⟩

theorem inDomain_ptCdbl (hj : j.inDomain) : (ptCdbl j).inDomain := by
  obtain ⟨hX, hY, hZ⟩ := hj
  have hzz := inDomain_sqr hZ
  have hcY := inDomain_add (inDomain_sqr hY) (inDomain_sqr hX)
  have hcZ := inDomain_sub (inDomain_sqr hY) (inDomain_sqr hX)
  exact ⟨inDomain_sub (inDomain_sqr (inDomain_add hX hY)) hcY, hcY, hcZ, inDomain_sub (inDomain_add hzz hzz) hcZ⟩

/-- One doubling of a chain that goes on in P2. -/
theorem inDomain_double (hj : j.inDomain) : (p2FromC (ptCdbl j)).inDomain := inDomain_p2FromC (inDomain_ptCdbl hj)

end Coordinates

/-! ## Tables (R231 to R237, R48, R49) -/

theorem inDomain_of_goodA {e : AffineCached} (h : GoodA e) : e.inDomain :=
  have ⟨_, _, _, _, hP, hM, hT⟩ := h
  ⟨hP.domain, hM.domain, hT.domain⟩

theorem inDomain_ptIdent : ptIdent.inDomain := goodP_ident.1

theorem inDomain_qIdent : qIdent.inDomain := ⟨rep_one.domain, rep_one.domain, rep_one.domain, rep_zero.domain⟩

theorem inDomain_jIdent : jIdent.inDomain := goodJ_ident.1

theorem inDomain_aIdent : aIdent.inDomain := inDomain_of_goodA goodA_ident

theorem inDomain_negCached {q : ProjCached} (h : q.inDomain) : (negCached q).inDomain :=
  have ⟨hP, hM, hZ, hT⟩ := h
  ⟨hM, hP, hZ, inDomain_neg hT⟩

theorem inDomain_negAffine {e : AffineCached} (h : e.inDomain) : (negAffine e).inDomain :=
  have ⟨hP, hM, hT⟩ := h
  ⟨hM, hP, inDomain_neg hT⟩

section Tables

variable {p : P3} {t : ProjTable} {r : AffineTable}

theorem inDomain_ltBuild (hp : p.inDomain) : ∀ e ∈ (ltBuild p).toList, e.inDomain :=
  forall_mem_tableOf (p := ProjCached.inDomain) (inDomain_qFromP3 hp) fun _ he =>
    inDomain_qFromP3 (inDomain_p3FromC (inDomain_ptCadd hp he))

theorem inDomain_atBuild (hp : p.inDomain) : ∀ e ∈ (atBuild p).toList, e.inDomain :=
  forall_mem_tableOf (p := AffineCached.inDomain) (inDomain_aFromP3 hp) fun _ he =>
    inDomain_aFromP3 (inDomain_p3FromC (inDomain_ptCadda hp he))

theorem inDomain_ntBuild (hp : p.inDomain) : ∀ e ∈ (ntBuild p).toList, e.inDomain := by
  have h2 := inDomain_p3FromC (inDomain_ptCadd hp (inDomain_qFromP3 hp))
  exact forall_mem_tableOf (p := ProjCached.inDomain) (inDomain_qFromP3 hp) fun _ he =>
    inDomain_qFromP3 (inDomain_p3FromC (inDomain_ptCadd h2 he))

theorem inDomain_ltSel (ht : ∀ e ∈ t.toList, e.inDomain) (x : Byte) : (ltSel t x).inDomain := by
  have h := selectScan_mem (p := ProjCached.inDomain) qSel_eq (digitAbs x) t.toList 1 qIdent inDomain_qIdent ht
  rw [ltSel, qCneg_eq]
  split
  · exact inDomain_negCached h
  · exact h

theorem inDomain_atSel (hr : ∀ e ∈ r.toList, e.inDomain) (x : Byte) : (atSel r x).inDomain := by
  have h := selectScan_mem (p := AffineCached.inDomain) aSel_eq (digitAbs x) r.toList 1 aIdent inDomain_aIdent hr
  rw [atSel, aCneg_eq]
  split
  · exact inDomain_negAffine h
  · exact h

theorem inDomain_ntSel (ht : ∀ e ∈ t.toList, e.inDomain) (m : Nat) : (ntSel t m).inDomain :=
  getD_of_forall (p := ProjCached.inDomain) ht inDomain_qIdent _

theorem inDomain_bntSel (m : Nat) : (bntSel m).inDomain := inDomain_of_goodA (goodA_bntSel m)

theorem inDomain_BPT {row : AffineTable} (hrow : row ∈ BPT.toList) : ∀ e ∈ row.toList, e.inDomain :=
  fun e he => inDomain_of_goodA (goodA_BPT hrow e he)

end Tables

/-! ## Point functions (R266 to R280) -/

section Points

variable {p u v : P3} {c : P1xP1} {t : ProjTable} {sp : List (Nat × P3)} {pairs : List (ProjTable × List Int)}

theorem inDomain_ptAdd (hu : u.inDomain) (hv : v.inDomain) : (ptAdd u v).inDomain :=
  inDomain_p3FromC (inDomain_ptCadd hu (inDomain_qFromP3 hv))

theorem inDomain_ptSub (hu : u.inDomain) (hv : v.inDomain) : (ptSub u v).inDomain :=
  inDomain_p3FromC (inDomain_ptCsub hu (inDomain_qFromP3 hv))

theorem inDomain_ptNeg (hu : u.inDomain) : (ptNeg u).inDomain := by
  obtain ⟨hX, hY, hZ, hT⟩ := hu
  rw [ptNeg]
  exact ⟨inDomain_neg hX, hY, hZ, inDomain_neg hT⟩

theorem inDomain_ptMul8 (hp : p.inDomain) : (ptMul8 p).inDomain :=
  inDomain_p3FromC (inDomain_ptCdbl (inDomain_double (inDomain_double (inDomain_p2FromP3 hp))))

theorem inDomain_ptMul16 (hp : p.inDomain) : (ptMul16 p).inDomain :=
  inDomain_p3FromC (inDomain_ptCdbl (inDomain_double (inDomain_double (inDomain_double (inDomain_p2FromP3 hp)))))

theorem inDomain_mullStep {q : ProjCached} (hq : q.inDomain) (n : Nat) (hp : p.inDomain) : (mullStep q n p).inDomain := by
  have hdbl := inDomain_p3FromC (inDomain_ptCdbl (inDomain_p2FromP3 hp))
  unfold mullStep
  split
  · exact inDomain_p3FromC (inDomain_ptCadd hdbl hq)
  · exact hdbl

theorem inDomain_mullLoop {q : ProjCached} (hq : q.inDomain) (n : Nat) (hp : p.inDomain) : (mullLoop q n p).inDomain := by
  rw [mullLoop_eq]
  exact downLoop_keeps (p := P3.inDomain) (q := P3.inDomain) (fun _ hv => hv) (fun n _ hv => inDomain_mullStep hq n hv) n hp

theorem inDomain_ptMulL (hp : p.inDomain) : (ptMulL p).inDomain := by
  rw [ptMulL]
  exact inDomain_mullLoop (inDomain_qFromP3 hp) _ hp

theorem inDomain_smulStep (ht : ∀ e ∈ t.toList, e.inDomain) (d : List Int) (n : Nat) (hv : v.inDomain) :
    (smulStep t d n v).inDomain := inDomain_p3FromC (inDomain_ptCadd (inDomain_ptMul16 hv) (inDomain_ltSel ht _))

theorem inDomain_ptSmul (s : Nat) (hp : p.inDomain) : (ptSmul s p).inDomain := by
  have ht := inDomain_ltBuild hp
  rw [ptSmul, smulLoop_eq]
  exact downLoop_keeps (p := P3.inDomain) (q := P3.inDomain) (fun _ hv => hv) (fun n _ hv => inDomain_smulStep ht _ n hv) _
    (inDomain_p3FromC (inDomain_ptCadd inDomain_ptIdent (inDomain_ltSel ht _)))

theorem inDomain_ptBmul (s : Nat) : (ptBmul s).inDomain := (goodP_ptBmul s).1

theorem inDomain_nafAdd (ht : ∀ e ∈ t.toList, e.inDomain) (x : Int) (hc : c.inDomain) : (nafAdd t x c).inDomain := by
  unfold nafAdd
  split_ifs
  · exact inDomain_ptCadd (inDomain_p3FromC hc) (inDomain_ntSel ht _)
  · exact inDomain_ptCsub (inDomain_p3FromC hc) (inDomain_ntSel ht _)
  · exact hc

theorem inDomain_nafAddBase (x : Int) (hc : c.inDomain) : (nafAddBase x c).inDomain := by
  unfold nafAddBase
  split_ifs
  · exact inDomain_ptCadda (inDomain_p3FromC hc) (inDomain_bntSel _)
  · exact inDomain_ptCsuba (inDomain_p3FromC hc) (inDomain_bntSel _)
  · exact hc

theorem inDomain_dblAddLoop {add : Nat → P1xP1 → P1xP1} (hadd : ∀ i c, c.inDomain → (add i c).inDomain) (i : Nat) {j : P2}
    (hj : j.inDomain) : (dblAddLoop add i j).inDomain := by
  rw [dblAddLoop_eq]
  exact downLoop_keeps (p := P2.inDomain) (q := P3.inDomain) (fun _ hj => inDomain_p3FromC (hadd 0 _ (inDomain_ptCdbl hj)))
    (fun i _ hj => inDomain_p2FromC (hadd (i + 1) _ (inDomain_ptCdbl hj))) i hj

theorem inDomain_ptVdsbm (a : Nat) (hu : u.inDomain) (b : Nat) : (ptVdsbm a u b).inDomain := by
  rw [ptVdsbm]
  exact inDomain_dblAddLoop (fun _ _ hc => inDomain_nafAddBase _ (inDomain_nafAdd (inDomain_ntBuild hu) _ hc)) _ inDomain_jIdent

theorem inDomain_msmAdd (i : Nat) (hp : ∀ td ∈ pairs, ∀ e ∈ td.1.toList, e.inDomain) (hv : v.inDomain) :
    (msmAdd pairs i v).inDomain :=
  foldl_keeps (p := P3.inDomain)
    (fun td htd _ hv => inDomain_p3FromC (inDomain_ptCadd hv (inDomain_ltSel (hp td htd) _))) hv

theorem inDomain_vmsmAdd (i : Nat) (hp : ∀ td ∈ pairs, ∀ e ∈ td.1.toList, e.inDomain) (hc : c.inDomain) :
    (vmsmAdd pairs i c).inDomain :=
  foldl_keeps (p := P1xP1.inDomain) (fun td htd _ hc => inDomain_nafAdd (hp td htd) _ hc) hc

theorem inDomain_pairs (hsp : ∀ x ∈ sp, x.2.inDomain) {build : P3 → ProjTable}
    (hbuild : ∀ {p : P3}, p.inDomain → ∀ e ∈ (build p).toList, e.inDomain) (recode : Nat → List Int) :
    ∀ td ∈ sp.map fun x => (build x.2, recode x.1), ∀ e ∈ td.1.toList, e.inDomain := by
  intro td htd
  obtain ⟨x, hx, rfl⟩ := List.mem_map.1 htd
  exact hbuild (hsp x hx)

theorem inDomain_ptMsm (hsp : ∀ x ∈ sp, x.2.inDomain) : (ptMsm sp).inDomain := by
  rw [ptMsm, msmLoop_eq]
  exact downLoop_keeps (p := P3.inDomain) (q := P3.inDomain) (fun _ hv => hv)
    (fun n _ hv => inDomain_msmAdd n (inDomain_pairs hsp inDomain_ltBuild scRadix16) (inDomain_ptMul16 hv)) _ inDomain_ptIdent

theorem inDomain_ptVmsm (hsp : ∀ x ∈ sp, x.2.inDomain) : (ptVmsm sp).inDomain := by
  have hp := inDomain_pairs hsp inDomain_ntBuild fun s => scNaf s 5
  rw [ptVmsm]
  exact inDomain_dblAddLoop (add := vmsmAdd _) (fun i _ hc => inDomain_vmsmAdd i hp hc) _ inDomain_jIdent

end Points

/-! ## Components (R313) -/

theorem inDomain_compP {p : P3} (h : p.inDomain) (c : Fin 4) : inDomain (compP p c) := by
  obtain ⟨h0, h1, h2, h3⟩ := h
  match c with
  | 0 => exact h0
  | 1 => exact h1
  | 2 => exact h2
  | 3 => exact h3

theorem inDomain_compJ {p : P2} (h : p.inDomain) (c : Fin 3) : inDomain (compJ p c) := by
  obtain ⟨h0, h1, h2⟩ := h
  match c with
  | 0 => exact h0
  | 1 => exact h1
  | 2 => exact h2

theorem inDomain_compC {p : P1xP1} (h : p.inDomain) (c : Fin 4) : inDomain (compC p c) := by
  obtain ⟨h0, h1, h2, h3⟩ := h
  match c with
  | 0 => exact h0
  | 1 => exact h1
  | 2 => exact h2
  | 3 => exact h3

theorem inDomain_compQ {q : ProjCached} (h : q.inDomain) (c : Fin 4) : inDomain (compQ q c) := by
  obtain ⟨h0, h1, h2, h3⟩ := h
  match c with
  | 0 => exact h0
  | 1 => exact h1
  | 2 => exact h2
  | 3 => exact h3

theorem inDomain_compA {q : AffineCached} (h : q.inDomain) (c : Fin 3) : inDomain (compA q c) := by
  obtain ⟨h0, h1, h2⟩ := h
  match c with
  | 0 => exact h0
  | 1 => exact h1
  | 2 => exact h2

/-! ## Every command (R121, R369) -/

/-- The limb vectors a write stores are in the domain. -/
def Update.InDomain : Update → Prop
  | .F _ v => inDomain v
  | .P _ v => v.inDomain
  | .J _ v => v.inDomain
  | .C _ v => v.inDomain
  | .Q _ v => v.inDomain
  | .A _ v => v.inDomain
  | .LT _ t => ∀ e ∈ t.toList, e.inDomain
  | .AT _ t => ∀ e ∈ t.toList, e.inDomain
  | .NT _ t => ∀ e ∈ t.toList, e.inDomain
  | .S _ _ | .DG _ _ | .K _ _ | .IO _ _ => True

/-- A property of every register of a file is kept by a write that has it. -/
theorem forall_getElem_set {α : Type} {n : Nat} {v : Vector α n} {p : α → Prop} (h : ∀ i : Fin n, p v[i]) (d : Fin n) {x : α}
    (hx : p x) (i : Fin n) : p (v.set d x)[i] := by
  by_cases hd : d.val = i.val
  · simpa [hd] using hx
  · rw [Fin.getElem_fin, Vector.getElem_set_ne d.isLt i.isLt hd]
    exact h i

theorem forall_mem_toList_iff {α : Type} {n : Nat} {v : Vector α n} {p : α → Prop} :
    (∀ e ∈ v.toList, p e) ↔ ∀ i : Fin n, p v[i] := by
  refine ⟨fun h i => h _ (by simp), fun h e he => ?_⟩
  obtain ⟨i, hi, rfl⟩ := List.getElem_of_mem he
  rw [Vector.length_toList] at hi
  rw [Vector.getElem_toList]
  exact h ⟨i, hi⟩

theorem boundsInv_apply {u : Update} {s : State} (hu : u.InDomain) (h : BoundsInv s) : BoundsInv (u.apply s) := by
  cases u with
  | F d v => exact { h with F := forall_getElem_set h.F d hu }
  | P d v => exact { h with P := forall_getElem_set (p := fun r : Tagged P3 => r.val.inDomain) h.P d hu }
  | J d v => exact { h with J := forall_getElem_set (p := fun r : Tagged P2 => r.val.inDomain) h.J d hu }
  | C d v => exact { h with C := forall_getElem_set (p := fun r : Tagged P1xP1 => r.val.inDomain) h.C d hu }
  | Q d v => exact { h with Q := forall_getElem_set (p := fun r : Tagged ProjCached => r.val.inDomain) h.Q d hu }
  | A d v => exact { h with A := forall_getElem_set (p := fun r : Tagged AffineCached => r.val.inDomain) h.A d hu }
  | LT d t =>
    have ht := forall_mem_toList_iff.1 hu
    exact { h with LT := forall_getElem_set (p := fun r : Tagged ProjTable => ∀ j : Fin 8, r.val[j].inDomain) h.LT d ht }
  | AT d t =>
    have ht := forall_mem_toList_iff.1 hu
    exact { h with AT := forall_getElem_set (p := fun r : Tagged AffineTable => ∀ j : Fin 8, r.val[j].inDomain) h.AT d ht }
  | NT d t =>
    have ht := forall_mem_toList_iff.1 hu
    exact { h with NT := forall_getElem_set (p := fun r : Tagged ProjTable => ∀ j : Fin 8, r.val[j].inDomain) h.NT d ht }
  | S d v => exact { h with }
  | DG d l => exact { h with }
  | K d b => exact { h with }
  | IO n b => exact { h with }

theorem boundsInv_applyAll : ∀ {us : List Update} {s : State}, (∀ u ∈ us, u.InDomain) → BoundsInv s → BoundsInv (applyAll us s)
  | [], _, _, h => h
  | u :: us, _, hus, h =>
    boundsInv_applyAll (us := us) (fun v hv => hus v (List.mem_cons_of_mem u hv)) (boundsInv_apply (hus u List.mem_cons_self) h)

/-- Every next state the outcome can answer meets the bounds. -/
def KeepsBounds (o : Outcome) : Prop := ∀ t, o = .next t → BoundsInv t

section Commands

variable {s : State}

/-- A command that writes scalars, digits, predicates and buffers only. -/
theorem keepsBounds_of_frame {i : Instr} (hs : BoundsInv s)
    (hw : writes i = { S := (writes i).S, DG := (writes i).DG, K := (writes i).K, IO := (writes i).IO }) :
    KeepsBounds (exec i s) := by
  intro t ht
  have h := exec_frames i s t ht
  rw [hw] at h
  exact {
    F := fun j => h.F j List.not_mem_nil ▸ hs.F j
    P := fun j => h.P j List.not_mem_nil ▸ hs.P j
    J := fun j => h.J j List.not_mem_nil ▸ hs.J j
    C := fun j => h.C j List.not_mem_nil ▸ hs.C j
    Q := fun j => h.Q j List.not_mem_nil ▸ hs.Q j
    A := fun j => h.A j List.not_mem_nil ▸ hs.A j
    LT := fun j => h.LT j List.not_mem_nil ▸ hs.LT j
    AT := fun j => h.AT j List.not_mem_nil ▸ hs.AT j
    NT := fun j => h.NT j List.not_mem_nil ▸ hs.NT j }

theorem keepsBounds_raise (hs : BoundsInv s) (e : CmdError) : KeepsBounds (raise e s) := by
  intro t ht
  rw [raise_eq.1 ht]
  exact { hs with }

theorem keepsBounds_complete (hs : BoundsInv s) {us : List Update} (hus : ∀ u ∈ us, u.InDomain) :
    KeepsBounds (complete (applyAll us s)) := by
  intro t ht
  rw [complete_eq.1 ht]
  exact { boundsInv_applyAll hus hs with }

theorem keepsBounds_one (hs : BoundsInv s) (u : Update) (hu : u.InDomain) : KeepsBounds (complete (u.apply s)) :=
  keepsBounds_complete hs (us := [u]) fun _ hv => List.mem_singleton.1 hv ▸ hu

theorem keepsBounds_withLegal (hs : BoundsInv s) {ok : Bool} {k : Outcome} (hk : KeepsBounds k) :
    KeepsBounds (withLegal ok s k) := by
  intro t ht
  obtain ⟨-, h⟩ | ⟨-, h⟩ := withLegal_cases ht
  · exact hk t h
  · exact keepsBounds_raise hs _ t h

theorem keepsBounds_withTagged (hs : BoundsInv s) {α : Type} {r : Tagged α} {e : CmdError} {k : α → Outcome}
    (hk : KeepsBounds (k r.val)) : KeepsBounds (withTagged r e s k) := by
  intro t ht
  obtain ⟨-, h⟩ | ⟨-, h⟩ := withTagged_cases ht
  · exact hk t h
  · exact keepsBounds_raise hs _ t h

theorem keepsBounds_withP (hs : BoundsInv s) {a : Fin 16} {k : P3 → Outcome} (hk : ∀ p, p.inDomain → KeepsBounds (k p)) :
    KeepsBounds (withP a s k) := keepsBounds_withTagged hs (hk _ (hs.P a))

theorem keepsBounds_withJ (hs : BoundsInv s) {a : Fin 4} {k : P2 → Outcome} (hk : ∀ j, j.inDomain → KeepsBounds (k j)) :
    KeepsBounds (withJ a s k) := keepsBounds_withTagged hs (hk _ (hs.J a))

theorem keepsBounds_withC (hs : BoundsInv s) {a : Fin 4} {k : P1xP1 → Outcome} (hk : ∀ c, c.inDomain → KeepsBounds (k c)) :
    KeepsBounds (withC a s k) := keepsBounds_withTagged hs (hk _ (hs.C a))

theorem keepsBounds_withQ (hs : BoundsInv s) {a : Fin 8} {k : ProjCached → Outcome} (hk : ∀ q, q.inDomain → KeepsBounds (k q)) :
    KeepsBounds (withQ a s k) := keepsBounds_withTagged hs (hk _ (hs.Q a))

theorem keepsBounds_withA (hs : BoundsInv s) {a : Fin 8} {k : AffineCached → Outcome} (hk : ∀ e, e.inDomain → KeepsBounds (k e)) :
    KeepsBounds (withA a s k) := keepsBounds_withTagged hs (hk _ (hs.A a))

theorem keepsBounds_withLT (hs : BoundsInv s) {a : Fin 8} {k : ProjTable → Outcome}
    (hk : ∀ t : ProjTable, (∀ e ∈ t.toList, e.inDomain) → KeepsBounds (k t)) : KeepsBounds (withLT a s k) :=
  keepsBounds_withTagged hs (hk _ (forall_mem_toList_iff.2 (hs.LT a)))

theorem keepsBounds_withAT (hs : BoundsInv s) {a : Fin 2} {k : AffineTable → Outcome}
    (hk : ∀ t : AffineTable, (∀ e ∈ t.toList, e.inDomain) → KeepsBounds (k t)) : KeepsBounds (withAT a s k) :=
  keepsBounds_withTagged hs (hk _ (forall_mem_toList_iff.2 (hs.AT a)))

theorem keepsBounds_withNT (hs : BoundsInv s) {a : Fin 8} {k : ProjTable → Outcome}
    (hk : ∀ t : ProjTable, (∀ e ∈ t.toList, e.inDomain) → KeepsBounds (k t)) : KeepsBounds (withNT a s k) :=
  keepsBounds_withTagged hs (hk _ (forall_mem_toList_iff.2 (hs.NT a)))

theorem keepsBounds_withBytes (hs : BoundsInv s) {n : Fin 4} {len : Nat} {e : CmdError} {k : List Byte → Outcome}
    (hk : ∀ b, b = ioBytes n len s → KeepsBounds (k b)) : KeepsBounds (withBytes n len e s k) := by
  intro t ht
  obtain ⟨-, h⟩ | ⟨-, h⟩ := withBytes_cases ht
  · exact hk _ rfl t h
  · exact keepsBounds_raise hs _ t h

theorem keepsBounds_withDigit (hs : BoundsInv s) {b : Fin 8} {i : Fin 256} {k : Byte → Outcome} (hk : ∀ x, KeepsBounds (k x)) :
    KeepsBounds (withDigit b i s k) := by
  intro t ht
  obtain ⟨-, h⟩ | ⟨-, h⟩ := withDigit_cases ht
  · exact hk _ t h
  · exact keepsBounds_raise hs _ t h

theorem keepsBounds_withSome (hs : BoundsInv s) {α : Type} {v : Option α} {e : CmdError} {k : α → Outcome}
    (hk : ∀ x, v = some x → KeepsBounds (k x)) : KeepsBounds (withSome v e s k) := by
  intro t ht
  obtain ⟨x, hx, h⟩ | ⟨-, h⟩ := withSome_cases ht
  · exact hk x hx t h
  · exact keepsBounds_raise hs _ t h

theorem inDomain_pairSources (hs : BoundsInv s) (a : Fin 8) (b : Fin 16) (n : Nat) :
    ∀ x ∈ (pairSources a b n s).map fun x => (x.1.toNat, x.2.val), x.2.inDomain := by
  intro x hx
  obtain ⟨y, hy, rfl⟩ := List.mem_map.1 hx
  exact forall_mem_toList_iff (p := fun r => r.val.inDomain).2 hs.P _
    (List.mem_of_mem_drop (List.mem_of_mem_take (List.of_mem_zip hy).2))

theorem keepsBounds_withPairs (hs : BoundsInv s) {a : Fin 8} {b : Fin 16} {n : Nat} {k : List (Nat × P3) → Outcome}
    (hk : ∀ sp, (∀ x ∈ sp, x.2.inDomain) → KeepsBounds (k sp)) : KeepsBounds (withPairs a b n s k) := by
  intro t ht
  obtain ⟨-, -, h⟩ | ⟨-, -, h⟩ | ⟨-, h⟩ := withPairs_cases ht
  · exact hk _ (inDomain_pairSources hs a b n) t h
  · exact keepsBounds_raise hs _ t h
  · exact keepsBounds_raise hs _ t h

theorem keepsBounds_withComponent (hs : BoundsInv s) {src : Component} {k : Limbs → Outcome}
    (hk : ∀ v, inDomain v → KeepsBounds (k v)) : KeepsBounds (withComponent src s k) := by
  cases src with
  | ofP r c => exact keepsBounds_withTagged hs (k := fun p => k (compP p c)) (hk _ (inDomain_compP (hs.P r) c))
  | ofJ r c => exact keepsBounds_withTagged hs (k := fun p => k (compJ p c)) (hk _ (inDomain_compJ (hs.J r) c))
  | ofC r c => exact keepsBounds_withTagged hs (k := fun p => k (compC p c)) (hk _ (inDomain_compC (hs.C r) c))
  | ofQ r c => exact keepsBounds_withTagged hs (k := fun p => k (compQ p c)) (hk _ (inDomain_compQ (hs.Q r) c))
  | ofA r c => exact keepsBounds_withTagged hs (k := fun p => k (compA p c)) (hk _ (inDomain_compA (hs.A r) c))

theorem keepsBounds_psetb (hs : BoundsInv s) (d : Fin 16) (n : Fin 4) : KeepsBounds (execPsetb d n s) := by
  unfold execPsetb
  exact keepsBounds_withBytes hs fun b _ =>
    keepsBounds_withSome hs fun p hp => keepsBounds_one hs (.P d p) (goodP_ptSetBytes hp).1

theorem keepsBounds_psetext (hs : BoundsInv s) (d : Fin 16) (a : Fin 29) : KeepsBounds (execPsetext d a s) := by
  unfold execPsetext
  split
  · exact keepsBounds_one hs (.P d _) ⟨hs.F _, hs.F _, hs.F _, hs.F _⟩
  · exact keepsBounds_raise hs _

end Commands

/-- Every command whose FLDL operand, if it is one, is in the domain, grouped by the file of its destination and the form of its
sources. The rules are unfolded once down to those forms, as for the frame. -/
theorem exec_keepsBounds {s : State} (hs : BoundsInv s) (i : Instr)
    (hfldl : ∀ d n, i = .fldl d n → inDomain (limbsOfBytes (ioBytes n 40 s))) : KeepsBounds (exec i s) := by
  cases i with
  | nop | kset | dgst | fisneg | feq | fgetb | fstl | smov | sadd | ssub | sneg | smul | sinv | seq | ssetc | ssetu | ssetcl |
    sgetb | srdx16 | snaf | pgetb | pgetm | peq => exact keepsBounds_of_frame hs rfl
  -- field registers
  | xget d src => exact keepsBounds_withComponent hs fun v hv => keepsBounds_one hs (.F d v) hv
  | fldc d c => exact keepsBounds_one hs (.F d _) (inDomain_fieldConst c)
  | fmov d a => exact keepsBounds_one hs (.F d _) (hs.F a)
  | fadd d a b => exact keepsBounds_one hs (.F d _) (inDomain_add (hs.F a) (hs.F b))
  | fsub d a b => exact keepsBounds_one hs (.F d _) (inDomain_sub (hs.F a) (hs.F b))
  | fneg d a => exact keepsBounds_one hs (.F d _) (inDomain_neg (hs.F a))
  | fmul d a b => exact keepsBounds_one hs (.F d _) (inDomain_mul (hs.F a) (hs.F b))
  | fsqr d a => exact keepsBounds_one hs (.F d _) (inDomain_sqr (hs.F a))
  | fmul32 d a => exact keepsBounds_one hs (.F d _) (inDomain_mul32 s.ARG (hs.F a).1)
  | fcarry d a => exact keepsBounds_one hs (.F d _) (inDomain_carry (hs.F a))
  | freduce d a => exact keepsBounds_one hs (.F d _) (inDomain_reduce (carryok_of_loose (hs.F a).1))
  | finv d a => exact keepsBounds_one hs (.F d _) (inDomain_inv (hs.F a))
  | fpow d a => exact keepsBounds_one hs (.F d _) (inDomain_pow22523 (hs.F a))
  | fsel d a b c => exact keepsBounds_one hs (.F d _) (inDomain_sel (hs.F a) (hs.F b) s.K[c])
  | fcneg d a c => exact keepsBounds_one hs (.F d _) (inDomain_cneg (hs.F a) s.K[c])
  | fsetb d n => exact keepsBounds_withBytes hs fun b _ => keepsBounds_one hs (.F d _) (inDomain_setBytes b)
  | fldl d n => exact keepsBounds_withBytes hs fun b hb => keepsBounds_one hs (.F d _) (hb ▸ hfldl d n rfl)
  | fsqrtr d k u v =>
    exact keepsBounds_complete hs (us := [.F d _, .K k _])
      (List.forall_mem_cons.2 ⟨inDomain_sqrtRatio (hs.F u) (hs.F v), List.forall_mem_singleton.2 trivial⟩)
  | fswap a b c =>
    obtain ⟨ha, hb⟩ := inDomain_swap (hs.F a) (hs.F b) s.K[c]
    exact keepsBounds_complete hs (us := [.F a _, .F b _]) (List.forall_mem_cons.2 ⟨ha, List.forall_mem_singleton.2 hb⟩)
  | pext d a =>
    exact keepsBounds_withP hs fun p ⟨hX, hY, hZ, hT⟩ => keepsBounds_complete hs
      (us := [.F (quadReg d 0) p.X, .F (quadReg d 1) p.Y, .F (quadReg d 2) p.Z, .F (quadReg d 3) p.T])
      (List.forall_mem_cons.2 ⟨hX, List.forall_mem_cons.2 ⟨hY, List.forall_mem_cons.2 ⟨hZ, List.forall_mem_singleton.2 hT⟩⟩⟩)
  -- P2, P1xP1 and the cached forms
  | jfromp d a => exact keepsBounds_withP hs fun _ ha => keepsBounds_one hs (.J d _) (inDomain_p2FromP3 ha)
  | jfromc d a => exact keepsBounds_withC hs fun _ ha => keepsBounds_one hs (.J d _) (inDomain_p2FromC ha)
  | qfromp d a => exact keepsBounds_withP hs fun _ ha => keepsBounds_one hs (.Q d _) (inDomain_qFromP3 ha)
  | afromp d a => exact keepsBounds_withP hs fun _ ha => keepsBounds_one hs (.A d _) (inDomain_aFromP3 ha)
  | cadd d a b =>
    exact keepsBounds_withP hs fun _ ha => keepsBounds_withQ hs fun _ hb => keepsBounds_one hs (.C d _) (inDomain_ptCadd ha hb)
  | csub d a b =>
    exact keepsBounds_withP hs fun _ ha => keepsBounds_withQ hs fun _ hb => keepsBounds_one hs (.C d _) (inDomain_ptCsub ha hb)
  | cadda d a b =>
    exact keepsBounds_withP hs fun _ ha => keepsBounds_withA hs fun _ hb => keepsBounds_one hs (.C d _) (inDomain_ptCadda ha hb)
  | csuba d a b =>
    exact keepsBounds_withP hs fun _ ha => keepsBounds_withA hs fun _ hb => keepsBounds_one hs (.C d _) (inDomain_ptCsuba ha hb)
  | cdbl d a => exact keepsBounds_withJ hs fun _ ha => keepsBounds_one hs (.C d _) (inDomain_ptCdbl ha)
  -- tables and selections
  | ltbuild d a => exact keepsBounds_withP hs fun _ ha => keepsBounds_one hs (.LT d _) (inDomain_ltBuild ha)
  | atbuild d a => exact keepsBounds_withP hs fun _ ha => keepsBounds_one hs (.AT d _) (inDomain_atBuild ha)
  | ntbuild d a => exact keepsBounds_withP hs fun _ ha => keepsBounds_one hs (.NT d _) (inDomain_ntBuild ha)
  | ltsel d a b p =>
    exact keepsBounds_withLT hs fun _ ha => keepsBounds_withDigit hs fun x => keepsBounds_one hs (.Q d _) (inDomain_ltSel ha x)
  | ltseli d a x =>
    exact keepsBounds_withLegal hs (keepsBounds_withLT hs fun _ ha => keepsBounds_one hs (.Q d _) (inDomain_ltSel ha _))
  | ntsel d a m =>
    exact keepsBounds_withLegal hs (keepsBounds_withNT hs fun _ ha => keepsBounds_one hs (.Q d _) (inDomain_ntSel ha m))
  | atsel d a b p =>
    exact keepsBounds_withAT hs fun _ ha => keepsBounds_withDigit hs fun x => keepsBounds_one hs (.A d _) (inDomain_atSel ha x)
  | atseli d a x =>
    exact keepsBounds_withLegal hs (keepsBounds_withAT hs fun _ ha => keepsBounds_one hs (.A d _) (inDomain_atSel ha _))
  | btsel d r b p =>
    exact keepsBounds_withDigit hs fun x => keepsBounds_one hs (.A d _) (inDomain_atSel (inDomain_BPT (by simp)) x)
  | btseli d r x =>
    exact keepsBounds_withLegal hs (keepsBounds_one hs (.A d _) (inDomain_atSel (inDomain_BPT (by simp)) _))
  | bnsel d m => exact keepsBounds_withLegal hs (keepsBounds_one hs (.A d _) (inDomain_bntSel m))
  -- points
  | pident d => exact keepsBounds_one hs (.P d _) inDomain_ptIdent
  | pgen d => exact keepsBounds_one hs (.P d _) goodP_gen.1
  | pfromc d a => exact keepsBounds_withC hs fun _ ha => keepsBounds_one hs (.P d _) (inDomain_p3FromC ha)
  | pmov d a => exact keepsBounds_withP hs fun _ ha => keepsBounds_one hs (.P d _) ha
  | psetb d n => exact keepsBounds_psetb hs d n
  | padd d a b =>
    exact keepsBounds_withP hs fun _ ha => keepsBounds_withP hs fun _ hb => keepsBounds_one hs (.P d _) (inDomain_ptAdd ha hb)
  | psub d a b =>
    exact keepsBounds_withP hs fun _ ha => keepsBounds_withP hs fun _ hb => keepsBounds_one hs (.P d _) (inDomain_ptSub ha hb)
  | pneg d a => exact keepsBounds_withP hs fun _ ha => keepsBounds_one hs (.P d _) (inDomain_ptNeg ha)
  | pmul8 d a => exact keepsBounds_withP hs fun _ ha => keepsBounds_one hs (.P d _) (inDomain_ptMul8 ha)
  | pmull d a => exact keepsBounds_withP hs fun _ ha => keepsBounds_one hs (.P d _) (inDomain_ptMulL ha)
  | psetext d a => exact keepsBounds_psetext hs d a
  | psmul d a b => exact keepsBounds_withP hs fun _ ha => keepsBounds_one hs (.P d _) (inDomain_ptSmul _ ha)
  | pbmul d a => exact keepsBounds_one hs (.P d _) (inDomain_ptBmul _)
  | pvdsbm d a b c => exact keepsBounds_withP hs fun _ ha => keepsBounds_one hs (.P d _) (inDomain_ptVdsbm _ ha _)
  | pmsm d a b n => exact keepsBounds_withPairs hs fun sp hsp => keepsBounds_one hs (.P d _) (inDomain_ptMsm hsp)
  | pvmsm d a b n => exact keepsBounds_withPairs hs fun sp hsp => keepsBounds_one hs (.P d _) (inDomain_ptVmsm hsp)

/-- Settles O24: every command writes values of the functions above, which map the domain into itself. -/
theorem domainClosed : Obligations.DomainClosed := by
  unfold Obligations.DomainClosed
  exact fun i s t hs hfldl ht => exec_keepsBounds hs i hfldl t ht

end Sys2Proof.Proofs

/-! Point encodings (44_point.md R263 to R265): O58 and O57. An encoding is the canonical y with the sign of x in the top bit; decoding
solves the curve equation for x. That the denominator `d·y² + 1` is never 0, and that only the degenerate point has `Z = 0`, rests
on `d` being no square. -/

namespace Sys2Proof.Proofs

open Sys2Proof.Machine Sys2Proof.Laws

/-! ## The top bit of a 32-byte string -/

theorem leNat_eq_low_add_top {b : List Byte} (h : b.length = 32) :
    leNat b = leNat (b.take 31) + 2 ^ 248 * (b.getD 31 0).toNat ∧ leNat (b.take 31) < 2 ^ 248 := by
  have hdrop : b.drop 31 = [b.getD 31 0] := by
    rw [List.drop_eq_getElem_cons (by omega), List.drop_of_length_le (by omega), List.getD_eq_getElem _ _ (by omega)]
  refine ⟨?_, ?_⟩
  · rw [← leNat_take_add_drop 31 b, hdrop, leNat, leNat, show 256 ^ 31 = 2 ^ 248 by decide, Nat.mul_zero, Nat.add_zero]
  · have hlt := leNat_lt (b.take 31)
    rwa [List.length_take, h, show 256 ^ min 31 32 = 2 ^ 248 by decide] at hlt

theorem testBit_255 (n : Nat) : n.testBit 255 = decide (n / 2 ^ 255 % 2 = 1) := Nat.testBit_eq_decide_div_mod_eq

/-- The sign bit of an encoding (R263). -/
theorem msb_eq_testBit {b : List Byte} (h : b.length = 32) : (b.getD 31 0).msb = (leNat b).testBit 255 := by
  obtain ⟨hsum, hlow⟩ := leNat_eq_low_add_top h
  have htop := (b.getD 31 0).isLt
  rw [testBit_255, BitVec.msb_eq_decide]
  exact decide_eq_decide.2 (by omega)

theorem leNat_set_last {b : List Byte} (h : b.length = 32) (x : Byte) :
    leNat (b.set 31 x) = leNat (b.take 31) + 2 ^ 248 * x.toNat := by
  have hset := (leNat_eq_low_add_top (b := b.set 31 x) (by rwa [List.length_set])).1
  have hlast : (b.set 31 x).getD 31 0 = x := by simp [h]
  rwa [List.take_set_of_le (by decide), hlast] at hset

/-- Setting the top bit of an integer below `2^255`, in its last byte. -/
theorem leNat_set_top {b : List Byte} (h : b.length = 32) (hlt : leNat b < 2 ^ 255) (s : Bool) :
    leNat (b.set 31 (b.getD 31 0 ||| if s then 0x80 else 0)) = leNat b + if s then 2 ^ 255 else 0 := by
  obtain ⟨hsum, -⟩ := leNat_eq_low_add_top h
  rw [leNat_set_last h, hsum]
  have htop : (b.getD 31 0).toNat < 2 ^ 7 := by omega
  cases s
  · simp
  · have hor := Nat.two_pow_add_eq_or_of_lt htop 1
    rw [Nat.mul_one, Nat.or_comm] at hor
    rw [if_pos rfl, if_pos rfl, BitVec.toNat_or, show BitVec.toNat (0x80 : Byte) = 2 ^ 7 by decide, ← hor]
    omega

/-! ## Encoding (R264, R265) -/

/-- The encoding of the affine point `(x, y)`: y's canonical value, with the sign of x in bit 255. -/
def pointCode (x y : ZMod fieldP) : Nat := y.val + if signBit x then 2 ^ 255 else 0

theorem val_lt_fieldP (x : ZMod fieldP) : x.val < fieldP := by
  have : NeZero fieldP := ⟨by decide⟩
  exact ZMod.val_lt x

theorem natCast_val_eq (x : ZMod fieldP) : (x.val : ZMod fieldP) = x := by
  have : NeZero fieldP := ⟨by decide⟩
  exact ZMod.natCast_zmod_val x

theorem pointCode_mod (x y : ZMod fieldP) : pointCode x y % 2 ^ 255 = y.val := by
  have hlt : y.val < 2 ^ 255 := (val_lt_fieldP y).trans (by decide)
  unfold pointCode
  split <;> omega

theorem pointCode_testBit (x y : ZMod fieldP) : (pointCode x y).testBit 255 = signBit x := by
  have hlt : y.val < 2 ^ 255 := (val_lt_fieldP y).trans (by decide)
  rw [testBit_255, pointCode]
  cases signBit x
  · exact decide_eq_false (by simp only [Bool.false_eq_true, if_false]; omega)
  · exact decide_eq_true (by simp only [if_true]; omega)

theorem leNat_feBytes_rep {l : Limbs} {x : ZMod fieldP} (h : Rep l x) : leNat (feBytes l) = x.val := by
  rw [leNat_feBytes h.carryok, ← val_toField, h.value]

section Encoding

variable {q : P3} {x y z : ZMod fieldP}

theorem leNat_ptBytes (hX : Rep q.X x) (hY : Rep q.Y y) (hZ : Rep q.Z z) :
    leNat (ptBytes q) = pointCode (x * z ^ (fieldP - 2)) (y * z ^ (fieldP - 2)) := by
  have hx := rep_mul hX (rep_inv hZ)
  have hy := rep_mul hY (rep_inv hZ)
  have hcode := leNat_feBytes_rep hy
  have hlt : leNat (feBytes (feMul q.Y (feInv q.Z))) < 2 ^ 255 := by
    rw [hcode]
    exact (val_lt_fieldP _).trans (by decide)
  have hset := leNat_set_top (length_feBytes _) hlt (feIsNeg (feMul q.X (feInv q.Z)))
  rw [hcode, feIsNeg_rep hx] at hset
  rw [pointCode, ← hset, ← feIsNeg_rep hx]
  rfl

theorem leNat_ptMontgomery (hY : Rep q.Y y) (hZ : Rep q.Z z) :
    leNat (ptMontgomery q) = ((z + y) * (z - y) ^ (fieldP - 2)).val :=
  leNat_feBytes_rep (rep_mul (rep_add hZ hY) (rep_inv (rep_sub hZ hY)))

end Encoding

/-- Settles O58: both strings encode canonical values of field elements. -/
theorem pointEncoding : Obligations.PointEncoding := by
  unfold Obligations.PointEncoding
  intro q ⟨hX, hY, hZ, _⟩
  rw [leNat_ptBytes (rep_self hX) (rep_self hY) (rep_self hZ), leNat_ptMontgomery (rep_self hY) (rep_self hZ), pointCode_mod,
    pointCode_testBit, natCast_val_eq, natCast_val_eq]
  exact ⟨length_ptBytes q, val_lt_fieldP _, rfl, rfl, length_feBytes _, val_lt_fieldP _, rfl⟩

/-! ## The curve equation solved for x (R263) -/

/-- `d·y² = −1` would make `d` a square, as −1 is one. -/
theorem denominator_ne_zero (y : ZMod fieldP) : y ^ 2 * dField + 1 ≠ 0 := by
  have := Fact.mk prime_fieldP
  intro h
  have hy : y ≠ 0 := by
    rintro rfl
    simp at h
  refine dField_not_isSquare ⟨sqrtM1Field / y, ?_⟩
  field_simp
  linear_combination h - sqrtM1Field_sq

/-- Two solutions with one y differ at most in sign. -/
theorem eq_or_eq_neg_of_curve {x x' y : ZMod fieldP} (h : x ^ 2 * (y ^ 2 * dField + 1) = y ^ 2 - 1)
    (h' : x' ^ 2 * (y ^ 2 * dField + 1) = y ^ 2 - 1) : x' = x ∨ x' = -x := by
  have := Fact.mk prime_fieldP
  exact sq_eq_sq_iff_eq_or_eq_neg.1 (mul_right_cancel₀ (denominator_ne_zero y) (h'.trans h.symm))

theorem eq_of_curve_of_signBit {x x' y : ZMod fieldP} (h : x ^ 2 * (y ^ 2 * dField + 1) = y ^ 2 - 1)
    (h' : x' ^ 2 * (y ^ 2 * dField + 1) = y ^ 2 - 1) (hs : signBit x' = (decide (x' ≠ 0) && signBit x)) : x' = x := by
  obtain rfl | rfl := eq_or_eq_neg_of_curve h h'
  · rfl
  by_cases hx : x = 0
  · rw [hx, neg_zero]
  · rw [signBit_neg hx, decide_eq_true (neg_ne_zero.2 hx), Bool.true_and] at hs
    exact absurd hs (Bool.not_ne_self _)

/-- The only point of the curve with `Z = 0` is the degenerate one (R368). -/
theorem eq_zero_of_onCurve {q : P3} (h : q.onCurve) (hZ : toField q.Z = 0) : toField q.X = 0 ∧ toField q.Y = 0 := by
  have := Fact.mk prime_fieldP
  obtain ⟨h1, h2⟩ := h
  rw [hZ] at h1 h2
  generalize toField q.X = x at *
  generalize toField q.Y = y at *
  generalize toField q.T = t at *
  have ht : t = 0 := by
    by_contra ht
    refine dField_not_isSquare ?_
    obtain rfl | rfl := mul_eq_zero.1 (h2.trans (mul_zero t))
    · refine ⟨y / t, ?_⟩
      field_simp
      linear_combination -h1
    · refine ⟨sqrtM1Field * x / t, ?_⟩
      field_simp
      linear_combination -h1 - x ^ 2 * sqrtM1Field_sq
  rw [ht] at h1 h2
  obtain rfl | rfl := mul_eq_zero.1 (h2.trans (mul_zero 0))
  · exact ⟨rfl, pow_eq_zero_iff two_ne_zero |>.1 (by linear_combination h1)⟩
  · exact ⟨pow_eq_zero_iff two_ne_zero |>.1 (by linear_combination -h1), rfl⟩

/-! ## Decoding (R263) -/

/-- The string's y: its low 255 bits mod p. -/
def stringY (b : List Byte) : ZMod fieldP := ((leNat b % 2 ^ 255 : Nat) : ZMod fieldP)

theorem rep_setBytes (b : List Byte) : Rep (feSetBytes b) (stringY b) := rep_limbs (Nat.mod_lt _ (by decide))

/-- What a decoded point is: Z = 1, y as it stands, and the solution x whose sign is the string's, unless x is 0. -/
structure DecodedAs (b : List Byte) (q : P3) (x : ZMod fieldP) : Prop where
  X : Rep q.X x
  Y : q.Y = feSetBytes b
  Z : q.Z = feOne
  curve : x ^ 2 * (stringY b ^ 2 * dField + 1) = stringY b ^ 2 - 1
  sign : signBit x = (decide (x ≠ 0) && (leNat b).testBit 255)

/-- Giving the non-negative root a sign. -/
theorem signBit_of_choice {r : ZMod fieldP} (hr : signBit r = false) (s : Bool) :
    signBit (if s then -r else r) = (decide ((if s then -r else r) ≠ 0) && s) := by
  by_cases h0 : r = 0
  · simp [h0, signBit_zero]
  · cases s
    · simp [hr]
    · simp [signBit_neg h0, hr, h0]

/-- Decoding in terms of field elements: the root of R139 exists exactly if the curve equation has a solution. -/
theorem ptSetBytes_spec {b : List Byte} (hb : b.length = 32) :
    ((∃ q, ptSetBytes b = some q) ↔ ∃ x : ZMod fieldP, x ^ 2 * (stringY b ^ 2 * dField + 1) = stringY b ^ 2 - 1) ∧
      ∀ q, ptSetBytes b = some q → ∃ x, DecodedAs b q x := by
  unfold ptSetBytes
  extract_lets y y2 u v
  have hy : Rep y (stringY b) := rep_setBytes b
  have hu : Rep u _ := rep_sub (rep_sqr hy) rep_one
  have hv : Rep v _ := rep_add (rep_mul (rep_sqr hy) rep_d) rep_one
  obtain ⟨htight, hsign, hroot, hsquare, -⟩ := sqrtRatioSound u v hu.domain.1 hu.domain.2 hv.domain.1
  obtain ⟨hflag, -⟩ := hsquare (hv.value ▸ denominator_ne_zero _)
  rw [hu.value, hv.value] at hroot hflag
  rw [← hflag]
  generalize feSqrtRatio u v = res at *
  obtain ⟨r, was⟩ := res
  dsimp only at *
  cases was with
  | false => exact ⟨by simp, by simp⟩
  | true =>
    refine ⟨by simp, fun q hq => ?_⟩
    rw [if_pos rfl, Option.some.injEq] at hq
    subst hq
    have hr := rep_self (inDomain_of_tight htight)
    rw [feIsNeg_rep hr] at hsign
    have hX := rep_sel (rep_neg hr) hr (b.getD 31 0).msb
    refine ⟨_, hX, rfl, rfl, ?_, ?_⟩
    · rw [← hroot rfl]
      split <;> ring
    · rw [← msb_eq_testBit hb]
      exact signBit_of_choice hsign _

theorem curve_iff (x y : ZMod fieldP) :
    x ^ 2 * (y ^ 2 * dField + 1) = y ^ 2 - 1 ↔ -x ^ 2 + y ^ 2 = 1 + dField * x ^ 2 * y ^ 2 :=
  ⟨fun h => by linear_combination -h, fun h => by linear_combination -h⟩

/-- A decoded point encodes to its y and the sign of its x. -/
theorem leNat_ptBytes_of_decoded {b : List Byte} {q : P3} {x : ZMod fieldP} (h : DecodedAs b q x) :
    leNat (ptBytes q) = pointCode x (stringY b) := by
  have hY : Rep q.Y (stringY b) := h.Y ▸ rep_setBytes b
  have hZ : Rep q.Z 1 := h.Z ▸ rep_one
  rw [leNat_ptBytes h.X hY hZ, one_pow, mul_one, mul_one]

/-- The affine coordinates PGETB encodes solve the curve equation, and give the point's own coordinates back (R264, R368). -/
theorem affine_of_onCurve {u : P3} (h : u.onCurve) (hZ : toField u.Z ≠ 0) :
    let x := toField u.X * toField u.Z ^ (fieldP - 2)
    let y := toField u.Y * toField u.Z ^ (fieldP - 2)
    x ^ 2 * (y ^ 2 * dField + 1) = y ^ 2 - 1 ∧ x * toField u.Z = toField u.X ∧ y * toField u.Z = toField u.Y := by
  have := Fact.mk prime_fieldP
  obtain ⟨h1, h2⟩ := h
  have hinv : toField u.Z * toField u.Z ^ (fieldP - 2) = 1 := by
    rw [← pow_succ', show fieldP - 2 + 1 = fieldP - 1 by decide]
    exact ZMod.pow_card_sub_one_eq_one hZ
  generalize toField u.Z ^ (fieldP - 2) = i at *
  generalize toField u.X = X at *
  generalize toField u.Y = Y at *
  generalize toField u.Z = Z at *
  generalize toField u.T = T at *
  refine ⟨?_, by linear_combination X * hinv, by linear_combination Y * hinv⟩
  linear_combination -i ^ 2 * h1 + dField * i ^ 4 * (X * Y + T * Z) * h2 - (Z * i + 1) * (1 - dField * T ^ 2 * i ^ 2) * hinv

/-- The code PGETB writes for a point in the domain. -/
theorem leNat_ptBytes_inDomain {u : P3} (hu : u.inDomain) : leNat (ptBytes u) =
    pointCode (toField u.X * toField u.Z ^ (fieldP - 2)) (toField u.Y * toField u.Z ^ (fieldP - 2)) :=
  have ⟨hX, hY, hZ, _⟩ := hu
  leNat_ptBytes (rep_self hX) (rep_self hY) (rep_self hZ)

theorem stringY_ptBytes {u : P3} (hu : u.inDomain) : stringY (ptBytes u) = toField u.Y * toField u.Z ^ (fieldP - 2) := by
  rw [stringY, leNat_ptBytes_inDomain hu, pointCode_mod, natCast_val_eq]

/-- The curve equation has a solution for the y of any encoding: x of the point, or `√−1` for the degenerate point's y = 0. -/
theorem exists_solution_of_onCurve {u : P3} (hu : u.inDomain) (hc : u.onCurve) :
    ∃ x : ZMod fieldP, x ^ 2 * (stringY (ptBytes u) ^ 2 * dField + 1) = stringY (ptBytes u) ^ 2 - 1 := by
  rw [stringY_ptBytes hu]
  by_cases hZ : toField u.Z = 0
  · obtain ⟨-, hY⟩ := eq_zero_of_onCurve hc hZ
    refine ⟨sqrtM1Field, ?_⟩
    rw [hY, sqrtM1Field_sq]
    ring
  · exact ⟨_, (affine_of_onCurve hc hZ).1⟩

/-- What the decoding of a point's encoding has in common with the point: its coordinates up to Z, and the sign of x. -/
theorem same_point_of_decoded {u q : P3} {x : ZMod fieldP} (hu : u.inDomain) (hc : u.onCurve) (h : DecodedAs (ptBytes u) q x) :
    toField u.X = x * toField u.Z ∧ toField u.Y = stringY (ptBytes u) * toField u.Z ∧
      pointCode x (stringY (ptBytes u)) = leNat (ptBytes u) := by
  have hsign := h.sign
  have hcurve := h.curve
  rw [leNat_ptBytes_inDomain hu, pointCode_testBit] at hsign
  rw [stringY_ptBytes hu] at hcurve
  rw [stringY_ptBytes hu, leNat_ptBytes_inDomain hu]
  by_cases hz : toField u.Z = 0
  · obtain ⟨hx0, hy0⟩ := eq_zero_of_onCurve hc hz
    rw [hx0, zero_mul, signBit_zero, Bool.and_false] at hsign
    rw [hx0, hy0, hz, zero_mul, zero_mul, mul_zero, pointCode, pointCode, hsign, signBit_zero]
    exact ⟨rfl, rfl, rfl⟩
  · obtain ⟨haff, hxz, hyz⟩ := affine_of_onCurve hc hz
    rw [eq_of_curve_of_signBit haff hcurve hsign]
    exact ⟨hxz.symm, hyz.symm, rfl⟩

/-- Settles O57: decoding in terms of field elements, and the code of the decoded point. -/
theorem pointDecoding : Obligations.PointDecoding := by
  unfold Obligations.PointDecoding
  refine ⟨fun b hb => ?string, fun u hu hc => ?point⟩
  case string =>
    obtain ⟨haccept, hdecoded⟩ := ptSetBytes_spec hb
    refine ⟨haccept.trans (exists_congr fun x => curve_iff x _), fun q hq => ?_⟩
    obtain ⟨hdom, hcurve⟩ := goodP_ptSetBytes hq
    obtain ⟨x, h⟩ := hdecoded q hq
    rw [leNat_ptBytes_of_decoded h, pointCode_mod, pointCode_testBit, h.X.value, feIsNeg_rep h.X, h.Y]
    refine ⟨hcurve, hdom, h.Z, val_limbs (Nat.mod_lt _ (by decide)), fun hx => ?_, ZMod.val_natCast _ _, h.sign⟩
    rw [h.sign, decide_eq_true hx, Bool.true_and]
  case point =>
    obtain ⟨haccept, hdecoded⟩ := ptSetBytes_spec (length_ptBytes u)
    obtain ⟨q, hq⟩ := haccept.2 (exists_solution_of_onCurve hu hc)
    obtain ⟨x, h⟩ := hdecoded q hq
    obtain ⟨hx, hy, hsame⟩ := same_point_of_decoded hu hc h
    have hqY : Rep q.Y (stringY (ptBytes u)) := h.Y ▸ rep_setBytes _
    have hqZ : Rep q.Z 1 := h.Z ▸ rep_one
    refine ⟨q, hq, (ptEq_iff (goodP_ptSetBytes hq).1 hu).2 ⟨?_, ?_⟩, ?_⟩
    · rw [hqZ.value, mul_one, h.X.value, hx]
    · rw [hqZ.value, mul_one, hqY.value, hy]
    · exact eq_of_leNat_eq (by rw [length_ptBytes, length_ptBytes]) ((leNat_ptBytes_of_decoded h).trans hsame)

end Sys2Proof.Proofs

/-! The scalar unit's results (41_scalar.md): its functions as residues mod ℓ, the clamped string as an integer, and the commands that
store them (O42 to O44). -/

namespace Sys2Proof.Proofs

open Sys2Proof.Machine Sys2Proof.Laws

/-! ## Residues (R172, R173) -/

/-- The model stores a residue as a natural number, the statements write it as an integer: the word is the same. -/
theorem ofNat_toNat_emod_ell (x : Int) : BitVec.ofNat 256 (x % (ell : Int)).toNat = BitVec.ofInt 256 (x % (ell : Int)) := by
  have h0 : 0 ≤ x % (ell : Int) := Int.emod_nonneg x (Int.natCast_pos.2 ell_pos).ne'
  rw [← BitVec.ofInt_natCast, Int.toNat_of_nonneg h0]

theorem scNeg_eq (a : Nat) : scNeg a = (-(a : Int) % ell).toNat := by
  rw [scNeg, sub_eq_add_neg, Int.add_emod_left]

theorem scMul_mod_left (a b : Nat) : scMul (a % ell) b = a * b % ell := Nat.mod_mul_mod a b ell

theorem scMul_mod_mod (a b : Nat) : scMul (a % ell) (b % ell) = a * b % ell := (Nat.mul_mod a b ell).symm

/-- Repeated squaring computes the power, for every exponent of at most `n` bits: `s^e` is the square of `s^(e/2)`, times `s` if
`e` is odd. -/
theorem scPow_eq (s : Nat) : ∀ n e, e < 2 ^ n → scPow s e n = s ^ e % ell
  | 0, e, he => by
    obtain rfl : e = 0 := by omega
    rw [scPow, pow_zero, Nat.mod_eq_of_lt (by decide)]
  | n + 1, e, he => by
    have hhalf : scPow s (e / 2) n = s ^ (e / 2) % ell := scPow_eq s n (e / 2) (by omega)
    have hsquare : scMul (scPow s (e / 2) n) (scPow s (e / 2) n) = s ^ (2 * (e / 2)) % ell := by
      rw [hhalf, scMul_mod_mod, ← pow_add, two_mul]
    rw [scPow, hsquare]
    split
    · next hodd => rw [scMul_mod_left, ← pow_succ, show 2 * (e / 2) + 1 = e by omega]
    · next heven => rw [show 2 * (e / 2) = e by omega]

theorem scInv_eq (s : Nat) : scInv s = s ^ (ell - 2) % ell := scPow_eq s 253 (ell - 2) (by decide)

/-! ## The clamped string (R174) -/

theorem toNat_clampFirst (x : Byte) : (x &&& 0xF8).toNat = 8 * (x.toNat / 8) := by
  revert x
  decide

theorem toNat_clampLast (x : Byte) : ((x &&& 0x7F) ||| 0x40).toNat = 64 + x.toNat % 64 := by
  revert x
  decide

/-- Clearing the low bits of byte 0 clears those of the integer. -/
theorem leNat_set_clampFirst {b : List Byte} (h : b ≠ []) : leNat (b.set 0 (b.getD 0 0 &&& 0xF8)) = 8 * (leNat b / 8) := by
  obtain ⟨x, bs, rfl⟩ := List.exists_cons_of_ne_nil h
  rw [List.set_cons_zero, List.getD_cons_zero, leNat, leNat, toNat_clampFirst]
  omega

/-- The clamped integer: bit 254 set, bits 253 to 3 those of the string. -/
theorem leNat_clampBytes {b : List Byte} (h : b.length = 32) : leNat (clampBytes b) = 2 ^ 254 + 8 * (leNat b % 2 ^ 254 / 8) := by
  have hfirst : leNat (b.set 0 (b.getD 0 0 &&& 0xF8)) = 8 * (leNat b / 8) :=
    leNat_set_clampFirst (List.ne_nil_of_length_pos (by omega))
  have hlast : (b.set 0 (b.getD 0 0 &&& 0xF8)).getD 31 0 = b.getD 31 0 := by simp
  have hlen : (b.set 0 (b.getD 0 0 &&& 0xF8)).length = 32 := by rw [List.length_set, h]
  obtain ⟨hsum, hlow⟩ := leNat_eq_low_add_top hlen
  rw [hlast, hfirst] at hsum
  rw [clampBytes, leNat_set_last hlen, toNat_clampLast]
  omega

/-! ## Commands (R178 to R187) -/

/-- Settles O43: the chain computes the power, 0 included. -/
theorem scalarInverse : Obligations.ScalarInverse := by
  unfold Obligations.ScalarInverse
  intro s d a
  rw [← scInv_eq]
  rfl

/-- Settles O44: with the required length each command goes on with the buffer's bytes, and stores what its decoder makes of them. -/
theorem scalarDecoders : Obligations.ScalarDecoders := by
  unfold Obligations.ScalarDecoders
  refine fun s n d => ⟨fun hlen hlt => ?canonical, fun hlen => ?uniform, fun hlen => ?clamped⟩
  case canonical =>
    have haccept : scSetCanonical (ioBytes n 32 s) = some (leNat (ioBytes n 32 s)) := if_neg (Nat.not_le_of_lt hlt)
    rw [exec, execSsetc, withBytes_of_length (len := 32) (congrArg BitVec.toNat hlen), haccept]
    rfl
  case uniform =>
    rw [exec, execSsetu, withBytes_of_length (len := 64) (congrArg BitVec.toNat hlen)]
    rfl
  case clamped =>
    have hclamp := leNat_clampBytes (b := ioBytes n 32 s) (length_readBytes _ _ _)
    rw [exec, execSsetcl, withBytes_of_length (len := 32) (congrArg BitVec.toNat hlen), scSetClamp, hclamp]
    rfl

/-- Settles O42: the words are the encodings of the commands (O1), and each command is a completed write of its residue. -/
theorem scalarArithmetic : Obligations.ScalarArithmetic := by
  unfold Obligations.ScalarArithmetic
  refine fun s d a b => ⟨⟨decodeEncode (.smov d a) rfl, ?smov⟩, ⟨decodeEncode (.sadd d a b) rfl, rfl⟩,
    ⟨decodeEncode (.ssub d a b) rfl, ?ssub⟩, ⟨decodeEncode (.sneg d a) rfl, ?sneg⟩, ⟨decodeEncode (.smul d a b) rfl, rfl⟩,
    ⟨decodeEncode (.seq d a b) rfl, ?seq⟩⟩
  case smov =>
    have hcopy : BitVec.ofNat 256 (readS a s) = s.S[a] := (BitVec.ofNat_toNat _ _).trans (BitVec.setWidth_eq _)
    rw [← hcopy]
    rfl
  case ssub =>
    rw [← ofNat_toNat_emod_ell]
    rfl
  case sneg =>
    rw [← ofNat_toNat_emod_ell, ← scNeg_eq]
    rfl
  case seq =>
    have hcompare : decide (s.S[a] = s.S[b]) = scEq (readS a s) (readS b s) := decide_eq_decide.2 BitVec.toNat_inj.symm
    rw [hcompare]
    rfl

end Sys2Proof.Proofs

/-! Coordinates (42_coords.md): what the four mixed additions and the doubler compute as field elements (O48), and the ten commands on
initialised sources (O47). -/

namespace Sys2Proof.Proofs

open Sys2Proof.Machine Sys2Proof.Laws

/-! ## The terms of the adder and the doubler (R207 to R211, R213) -/

/-- The completed value `c` is in the domain and its components represent `x`, `y`, `z` and `t`. -/
def CompletedTerms (c : P1xP1) (x y z t : ZMod fieldP) : Prop :=
  toField c.X = x ∧ toField c.Y = y ∧ toField c.Z = z ∧ toField c.T = t ∧ c.inDomain

section Terms

variable {c : P1xP1} {x y z t : ZMod fieldP}

theorem completedTerms_intro (hX : Rep c.X x) (hY : Rep c.Y y) (hZ : Rep c.Z z) (hT : Rep c.T t) : CompletedTerms c x y z t :=
  ⟨hX.value, hY.value, hZ.value, hT.value, hX.domain, hY.domain, hZ.domain, hT.domain⟩

theorem CompletedTerms.swapZT (h : CompletedTerms c x y z t) : CompletedTerms ⟨c.X, c.Y, c.T, c.Z⟩ x y t z :=
  have ⟨eX, eY, eZ, eT, hX, hY, hZ, hT⟩ := h
  ⟨eX, eY, eT, eZ, hX, hY, hT, hZ⟩

/-- A doubled vector stands for twice its element. -/
theorem rep_add_self {a : Limbs} (ha : Rep a x) : Rep (feAdd a a) (2 * x) := two_mul x ▸ rep_add ha ha

end Terms

section Adder

variable {u : P3} {q : ProjCached} {e : AffineCached} {j : P2}

/-- The one adder behind R207 to R210: `a` and `b` multiply `Y+X` and `Y−X`, `t2d` multiplies T, and `zz2` is the doubled product of
the Zs. Subtraction exchanges `a` with `b` and Z with T. -/
theorem completedTerms_adder {a b t2d zz2 : Limbs} {w : ZMod fieldP} (hu : u.inDomain) (ha : inDomain a) (hb : inDomain b)
    (ht : inDomain t2d) (hw : Rep zz2 w) :
    CompletedTerms
      ⟨feSub (feMul (feAdd u.Y u.X) a) (feMul (feSub u.Y u.X) b), feAdd (feMul (feAdd u.Y u.X) a) (feMul (feSub u.Y u.X) b),
        feAdd zz2 (feMul u.T t2d), feSub zz2 (feMul u.T t2d)⟩
      ((toField u.Y + toField u.X) * toField a - (toField u.Y - toField u.X) * toField b)
      ((toField u.Y + toField u.X) * toField a + (toField u.Y - toField u.X) * toField b)
      (w + toField u.T * toField t2d) (w - toField u.T * toField t2d) := by
  obtain ⟨hX, hY, -, hT⟩ := hu
  have hpp := rep_mul (rep_add (rep_self hY) (rep_self hX)) (rep_self ha)
  have hmm := rep_mul (rep_sub (rep_self hY) (rep_self hX)) (rep_self hb)
  have htt := rep_mul (rep_self hT) (rep_self ht)
  exact completedTerms_intro (rep_sub hpp hmm) (rep_add hpp hmm) (rep_add hw htt) (rep_sub hw htt)

/-- The doubled product of the Zs, for a projective cached operand (R207, R208). -/
theorem rep_zz2 (hu : u.inDomain) (hq : q.inDomain) :
    Rep (feAdd (feMul u.Z q.Z) (feMul u.Z q.Z)) (2 * toField u.Z * toField q.Z) := by
  obtain ⟨-, -, hZ, -⟩ := hu
  obtain ⟨-, -, qZ, -⟩ := hq
  rw [mul_assoc]
  exact rep_add_self (rep_mul (rep_self hZ) (rep_self qZ))

/-- The doubled Z, for an affine cached operand, whose own Z is 1 (R209, R210). -/
theorem rep_z2 (hu : u.inDomain) : Rep (feAdd u.Z u.Z) (2 * toField u.Z) :=
  have ⟨_, _, hZ, _⟩ := hu
  rep_add_self (rep_self hZ)

theorem completedTerms_ptCdbl (hj : j.inDomain) :
    CompletedTerms (ptCdbl j) (2 * toField j.X * toField j.Y) (toField j.Y ^ 2 + toField j.X ^ 2)
      (toField j.Y ^ 2 - toField j.X ^ 2) (2 * toField j.Z ^ 2 - (toField j.Y ^ 2 - toField j.X ^ 2)) := by
  obtain ⟨hX, hY, hZ⟩ := hj
  have hcY := rep_add (rep_sqr (rep_self hY)) (rep_sqr (rep_self hX))
  have hcZ := rep_sub (rep_sqr (rep_self hY)) (rep_sqr (rep_self hX))
  have hcX := rep_sub (rep_sqr (rep_add (rep_self hX) (rep_self hY))) hcY
  have hcross : (toField j.X + toField j.Y) ^ 2 - (toField j.Y ^ 2 + toField j.X ^ 2) = 2 * toField j.X * toField j.Y := by ring
  rw [hcross] at hcX
  exact completedTerms_intro hcX hcY hcZ (rep_sub (rep_add_self (rep_sqr (rep_self hZ))) hcZ)

end Adder

/-- Settles O48: the four additions are one adder, which subtraction reads with its operands and its results exchanged. -/
theorem adderDoublerTerms : Obligations.AdderDoublerTerms := by
  unfold Obligations.AdderDoublerTerms
  refine ⟨fun u q hu hq => ?projective, fun u q hu hq => ?affine, fun j hj => completedTerms_ptCdbl hj⟩
  case projective =>
    have ⟨qP, qM, _, qT⟩ := hq
    exact ⟨completedTerms_adder hu qP qM qT (rep_zz2 hu hq), (completedTerms_adder hu qM qP qT (rep_zz2 hu hq)).swapZT⟩
  case affine =>
    obtain ⟨qP, qM, qT⟩ := hq
    exact ⟨completedTerms_adder hu qP qM qT (rep_z2 hu), (completedTerms_adder hu qM qP qT (rep_z2 hu)).swapZT⟩

/-! ## Commands (R202 to R206, R215 to R224) -/

/-- Settles O47: with its sources initialised each command goes on with their values, and completes the write of its function's
result. -/
theorem coordinateResults : Obligations.CoordinateResults := by
  unfold Obligations.CoordinateResults
  refine fun s => ⟨fun d a hP => ?jfromp, fun d a hC => ?jfromc, fun d a hC => ?pfromc, fun d a hP => ?qfromp, fun d a hP => ?afromp,
    fun d a b hP hQ => ⟨?cadd, ?csub⟩, fun d a b hP hA => ⟨?cadda, ?csuba⟩, fun d a hJ => ?cdbl⟩
  case jfromp =>
    rw [exec, execJfromp, withP, withTagged_of_tag hP]
    rfl
  case jfromc =>
    rw [exec, execJfromc, withC, withTagged_of_tag hC]
    rfl
  case pfromc =>
    rw [exec, execPfromc, withC, withTagged_of_tag hC]
    rfl
  case qfromp =>
    rw [exec, execQfromp, withP, withTagged_of_tag hP]
    rfl
  case afromp =>
    rw [exec, execAfromp, withP, withTagged_of_tag hP]
    rfl
  case cadd =>
    rw [exec, execCadd, withP, withTagged_of_tag hP, withQ, withTagged_of_tag hQ]
    rfl
  case csub =>
    rw [exec, execCsub, withP, withTagged_of_tag hP, withQ, withTagged_of_tag hQ]
    rfl
  case cadda =>
    rw [exec, execCadda, withP, withTagged_of_tag hP, withA, withTagged_of_tag hA]
    rfl
  case csuba =>
    rw [exec, execCsuba, withP, withTagged_of_tag hP, withA, withTagged_of_tag hA]
    rfl
  case cdbl =>
    rw [exec, execCdbl, withJ, withTagged_of_tag hJ]
    rfl

end Sys2Proof.Proofs

/-! Tables (43_tables.md): the selections case by case (O50), the three builds (O49), and the eight selecting commands on a legal digit
or odd multiple (O51). -/

namespace Sys2Proof.Proofs

open Sys2Proof.Machine Sys2Proof.Laws

/-! ## The constant-time selections (R234 to R236) -/

theorem digitAbs_pos (j : Fin 8) : digitAbs (BitVec.ofNat 8 (j.val + 1)) = j.val + 1 := by
  revert j
  decide

theorem digitAbs_neg (j : Fin 8) : digitAbs (-BitVec.ofNat 8 (j.val + 1)) = j.val + 1 := by
  revert j
  decide

theorem digitNeg_pos (j : Fin 8) : digitNeg (BitVec.ofNat 8 (j.val + 1)) = false := by
  revert j
  decide

theorem digitNeg_neg (j : Fin 8) : digitNeg (-BitVec.ofNat 8 (j.val + 1)) = true := by
  revert j
  decide

section Scan

variable {α : Type} {sel : α → α → Bool → α} (hsel : ∀ a b c, sel a b c = if c then a else b)

include hsel

/-- A scan keeps what it has once the multiple it looks for is past. -/
theorem selectScan_of_lt {k : Nat} : ∀ (l : List α) {j : Nat} (dest : α), k < j → selectScan sel k l j dest = dest
  | [], _, _, _ => rfl
  | e :: es, j, dest, h => by
    have hne : (k == j) = false := beq_false_of_ne (by omega)
    rw [selectScan, hne, hsel, selectScan_of_lt es _ (by omega)]
    rfl

/-- A scan from multiple `j` returns the entry of the multiple `j + n` it looks for. -/
theorem selectScan_add : ∀ (l : List α) (j n : Nat) (dest : α) (h : n < l.length), selectScan sel (j + n) l j dest = l[n]
  | e :: es, j, 0, dest, _ => by
    rw [Nat.add_zero, selectScan, beq_self_eq_true, hsel, selectScan_of_lt hsel es _ (Nat.lt_succ_self j)]
    rfl
  | e :: es, j, n + 1, dest, h => by
    have hlen : n < es.length := Nat.lt_of_succ_lt_succ h
    rw [selectScan, ← Nat.succ_add_eq_add_succ, selectScan_add es (j + 1) n _ hlen, List.getElem_cons_succ]

/-- The scan of a table for the multiple `j + 1`. -/
theorem selectScan_table (t : Vector α 8) (j : Fin 8) (dest : α) : selectScan sel (j.val + 1) t.toList 1 dest = t[j] := by
  rw [Nat.add_comm, selectScan_add hsel t.toList 1 j dest (t.length_toList.symm ▸ j.isLt), Vector.getElem_toList]
  rfl

end Scan

theorem ltSel_zero (t : ProjTable) : ltSel t 0 = qIdent :=
  calc ltSel t 0
    _ = selectScan qSel 0 t.toList 1 qIdent := qCneg_eq _ false
    _ = qIdent := selectScan_of_lt qSel_eq _ _ Nat.one_pos

theorem ltSel_pos (t : ProjTable) (j : Fin 8) : ltSel t (BitVec.ofNat 8 (j.val + 1)) = t[j] := by
  rw [ltSel, digitAbs_pos, digitNeg_pos, selectScan_table qSel_eq, qCneg_eq]
  rfl

theorem ltSel_neg (t : ProjTable) (j : Fin 8) : ltSel t (-BitVec.ofNat 8 (j.val + 1)) = negCached t[j] := by
  rw [ltSel, digitAbs_neg, digitNeg_neg, selectScan_table qSel_eq, qCneg_eq]
  rfl

theorem atSel_zero (t : AffineTable) : atSel t 0 = aIdent :=
  calc atSel t 0
    _ = selectScan aSel 0 t.toList 1 aIdent := aCneg_eq _ false
    _ = aIdent := selectScan_of_lt aSel_eq _ _ Nat.one_pos

theorem atSel_pos (t : AffineTable) (j : Fin 8) : atSel t (BitVec.ofNat 8 (j.val + 1)) = t[j] := by
  rw [atSel, digitAbs_pos, digitNeg_pos, selectScan_table aSel_eq, aCneg_eq]
  rfl

theorem atSel_neg (t : AffineTable) (j : Fin 8) : atSel t (-BitVec.ofNat 8 (j.val + 1)) = negAffine t[j] := by
  rw [atSel, digitAbs_neg, digitNeg_neg, selectScan_table aSel_eq, aCneg_eq]
  rfl

/-! ## The odd multiples (R237) -/

theorem ntSel_odd (t : ProjTable) (k : Fin 8) : ntSel t (2 * k.val + 1) = t[k] := by
  have hk : (2 * k.val + 1) / 2 = k.val := by omega
  rw [ntSel, hk, List.getD_eq_getElem _ _ (t.length_toList.symm ▸ k.isLt), Vector.getElem_toList]
  rfl

/-- The ROM stands in parts of eight: the odd multiple of entry `8i + j` is in part `i`, at `j`. -/
theorem bntSel_odd (i j : Fin 8) : bntSel (2 * (8 * i.val + j.val) + 1) = BNT[i][j] := by
  have hi : (2 * (8 * i.val + j.val) + 1) / 16 = i.val := by omega
  have hj : (2 * (8 * i.val + j.val) + 1) / 2 % 8 = j.val := by omega
  have hpart : BNT.toList[i.val]? = some BNT[i] := by
    rw [List.getElem?_eq_getElem (BNT.length_toList.symm ▸ i.isLt), Vector.getElem_toList]
    rfl
  rw [bntSel, hi, hj, hpart]
  change BNT[i].toList.getD j.val aIdent = _
  rw [List.getD_eq_getElem _ _ (BNT[i].length_toList.symm ▸ j.isLt), Vector.getElem_toList]
  rfl

/-- Settles O50: a scan finds the entry whose multiple is the digit's absolute value, and the sign negates it. -/
theorem selectionCases : Obligations.SelectionCases := by
  unfold Obligations.SelectionCases
  exact ⟨fun t => ⟨ltSel_zero t, fun j => ⟨ltSel_pos t j, ltSel_neg t j⟩⟩,
    fun t => ⟨atSel_zero t, fun j => ⟨atSel_pos t j, atSel_neg t j⟩⟩, ntSel_odd, bntSel_odd⟩

/-! ## The builds (R231 to R233, R240, R243, R248) -/

theorem tableOf_succ {α : Type} (first : α) (next : α → α) (i : Fin 7) :
    (tableOf first next)[i.succ] = next (tableOf first next)[i.castSucc] := by
  fin_cases i <;> rfl

/-- Settles O49: each build is a `tableOf`, whose entries are made one from the other. -/
theorem tableBuilds : Obligations.TableBuilds := by
  unfold Obligations.TableBuilds
  refine fun s a hP => ⟨fun d => ⟨ltBuild s.P[a].val, ?ltbuild, rfl, rfl, tableOf_succ _ _⟩,
    fun d => ⟨atBuild s.P[a].val, ?atbuild, rfl, rfl, tableOf_succ _ _⟩, fun d => ⟨ntBuild s.P[a].val, ?ntbuild, rfl, rfl, tableOf_succ _ _⟩⟩
  case ltbuild =>
    rw [exec, execLtbuild, withP, withTagged_of_tag hP]
    rfl
  case atbuild =>
    rw [exec, execAtbuild, withP, withTagged_of_tag hP]
    rfl
  case ntbuild =>
    rw [exec, execNtbuild, withP, withTagged_of_tag hP]
    rfl

/-! ## The selecting commands (R241, R242, R244 to R247, R249, R250) -/

theorem legalDigit_of_le {x : Int} (hlo : -8 ≤ x) (hhi : x ≤ 8) : legalDigit x = true := by
  rw [legalDigit, decide_eq_true hlo, decide_eq_true hhi]
  rfl

theorem legalOdd_of_le {top k : Nat} (h : 2 * k + 1 ≤ top) : legalOdd top (2 * k + 1) = true := by
  rw [legalOdd, decide_eq_true h, Bool.and_true, beq_iff_eq]
  omega

theorem withLegal_of_legal {ok : Bool} (h : ok = true) (s : State) (k : Outcome) : withLegal ok s k = k := if_pos h

theorem withDigit_of_le {b : Fin 8} {i : Fin 256} {s : State} (hlo : -8 ≤ s.DG[b][i].toInt) (hhi : s.DG[b][i].toInt ≤ 8)
    (k : Byte → Outcome) : withDigit b i s k = k s.DG[b][i] := if_pos (legalDigit_of_le hlo hhi)

theorem withImmDigit_of_le {x : Int} (hlo : -8 ≤ x) (hhi : x ≤ 8) (s : State) (k : Byte → Outcome) :
    withImmDigit x s k = k (BitVec.ofInt 8 x) := withLegal_of_legal (legalDigit_of_le hlo hhi) s _

/-- Settles O51: with its table built and its digit or multiple legal, each command completes the write of its selection. -/
theorem tableSelects : Obligations.TableSelects := by
  unfold Obligations.TableSelects
  refine fun s => ⟨fun d a b i hT hlo hhi => ?ltsel, fun d a x hT hlo hhi => ?ltseli, fun d a b i hT hlo hhi => ?atsel,
    fun d a x hT hlo hhi => ?atseli, fun d r b i hlo hhi => ?btsel, fun d r x hlo hhi => ?btseli, fun d a k hT => ?ntsel,
    fun d i j => ?bnsel⟩
  case ltsel =>
    rw [exec, execLtsel, withLT, withTagged_of_tag hT, withDigit_of_le hlo hhi]
    rfl
  case ltseli =>
    rw [exec, execLtseli, withImmDigit_of_le hlo hhi, withLT, withTagged_of_tag hT]
    rfl
  case atsel =>
    rw [exec, execAtsel, withAT, withTagged_of_tag hT, withDigit_of_le hlo hhi]
    rfl
  case atseli =>
    rw [exec, execAtseli, withImmDigit_of_le hlo hhi, withAT, withTagged_of_tag hT]
    rfl
  case btsel =>
    rw [exec, execBtsel, withDigit_of_le hlo hhi]
    rfl
  case btseli =>
    rw [exec, execBtseli, withImmDigit_of_le hlo hhi]
    rfl
  case ntsel =>
    rw [exec, execNtsel, withLegal_of_legal (legalOdd_of_le (by omega)), withNT, withTagged_of_tag hT, ntSel_odd]
    rfl
  case bnsel =>
    rw [exec, execBnsel, withLegal_of_legal (legalOdd_of_le (by omega)), bntSel_odd]
    rfl

end Sys2Proof.Proofs

/-! The sources of the multi-scalar commands (R102, R279), and which error a command raises as a matter of tags and lengths (R281,
R372): O18. -/

namespace Sys2Proof.Proofs

open Sys2Proof.Machine Sys2Proof.Laws

/-! ## Pairs of a scalar and a point (R102, R279) -/

/-- A legal range names `n` registers of each file, paired in order. -/
theorem pairSources_eq (s : State) {a : Fin 8} {b : Fin 16} {n : Nat} (ha : a.val + n ≤ 8) (hb : b.val + n ≤ 16) :
    pairSources a b n s =
      (List.finRange n).map fun k => (s.S[a.val + k.val]'(by omega), s.P[b.val + k.val]'(by omega)) := by
  refine List.ext_getElem ?_ fun i h1 h2 => ?_
  · simp only [pairSources, List.length_zip, List.length_take, List.length_drop, Vector.length_toList, List.length_map,
      List.length_finRange]
    omega
  · simp only [pairSources, List.getElem_zip, List.getElem_take, List.getElem_drop, Vector.getElem_toList, List.getElem_map,
      List.getElem_finRange, Fin.val_cast]

theorem legalPairs_iff {a : Fin 8} {b : Fin 16} {n : Nat} :
    legalPairs a b n = true ↔ a.val + n ≤ 8 ∧ b.val + n ≤ 16 := by
  simp only [legalPairs, Bool.and_eq_true, decide_eq_true_eq]
  unfold Config.nMsm
  omega

/-- The points of a legal range are initialised as their registers are. -/
theorem all_pairSources_tag (s : State) {a : Fin 8} {b : Fin 16} {n : Nat} (ha : a.val + n ≤ 8) (hb : b.val + n ≤ 16) :
    (pairSources a b n s).all (fun x => x.2.tag) = true ↔ ∀ k : Fin n, (s.P[b.val + k.val]'(by omega)).tag = true := by
  rw [pairSources_eq s ha hb]
  simp

/-! ## Errors and tags (R281, R372) -/

/-- The outcome leaves no error, or one that depends on data (R281, R372). -/
def DataCode (o : Outcome) : Prop := ∀ t, o = .next t → t.LASTERR ∈ [0, 3, 4, 10]

/-- The two outcomes leave the same code, or each one that depends on data. -/
def SameCode (o o' : Outcome) : Prop :=
  ∀ t t', o = .next t → o' = .next t' → t.LASTERR ≠ t'.LASTERR →
    t.LASTERR ∈ [0, 3, 4, 10] ∧ t'.LASTERR ∈ [0, 3, 4, 10]

section Codes

variable {s s' : State} {o o' : Outcome}

theorem dataCode_complete (u : State) : DataCode (complete u) := by
  intro t ht
  rw [complete_eq.1 ht]
  exact List.mem_cons_self

theorem dataCode_raise {e : CmdError} (he : errorCode e ∈ [0, 3, 4, 10]) (s : State) : DataCode (raise e s) := by
  intro t ht
  rw [raise_eq.1 ht]
  exact he

theorem dataCode_psetext (d : Fin 16) (a : Fin 29) (s : State) : DataCode (execPsetext d a s) := by
  unfold execPsetext
  split
  · exact dataCode_complete _
  · exact dataCode_raise (by decide) s

theorem sameCode_of_dataCode (h : DataCode o) (h' : DataCode o') : SameCode o o' :=
  fun t t' ht ht' _ => ⟨h t ht, h' t' ht'⟩

theorem sameCode_complete (u u' : State) : SameCode (complete u) (complete u') :=
  sameCode_of_dataCode (dataCode_complete u) (dataCode_complete u')

theorem sameCode_withSome {α : Type} {v v' : Option α} {e : CmdError} (he : errorCode e ∈ [0, 3, 4, 10]) (u u' : α → State) :
    SameCode (withSome v e s fun x => complete (u x)) (withSome v' e s' fun x => complete (u' x)) := by
  have hdata (v : Option α) (s : State) (u : α → State) : DataCode (withSome v e s fun x => complete (u x)) := by
    intro t ht
    obtain ⟨x, -, h⟩ | ⟨-, h⟩ := withSome_cases ht
    · exact dataCode_complete _ t h
    · exact dataCode_raise he s t h
  exact sameCode_of_dataCode (hdata v s u) (hdata v' s' u')

theorem sameCode_withDigit (b : Fin 8) (i : Fin 256) (u u' : Byte → State) :
    SameCode (withDigit b i s fun x => complete (u x)) (withDigit b i s' fun x => complete (u' x)) := by
  have hdata (s : State) (u : Byte → State) : DataCode (withDigit b i s fun x => complete (u x)) := by
    intro t ht
    obtain ⟨-, h⟩ | ⟨-, h⟩ := withDigit_cases ht
    · exact dataCode_complete _ t h
    · exact dataCode_raise (by decide) s t h
  exact sameCode_of_dataCode (hdata s u) (hdata s' u')

theorem sameCode_raise (e : CmdError) : SameCode (raise e s) (raise e s') := by
  intro t t' ht ht' hne
  rw [raise_eq.1 ht, raise_eq.1 ht'] at hne
  exact absurd rfl hne

/-- A check both states decide alike. -/
theorem sameCode_ite {c c' : Prop} [Decidable c] [Decidable c'] (hc : c ↔ c') {e : CmdError} (h : SameCode o o') :
    SameCode (if c then o else raise e s) (if c' then o' else raise e s') := by
  by_cases h1 : c
  · rwa [if_pos h1, if_pos (hc.1 h1)]
  · rw [if_neg h1, if_neg fun h2 => h1 (hc.2 h2)]
    exact sameCode_raise e

theorem sameCode_withLegal {ok : Bool} (h : SameCode o o') : SameCode (withLegal ok s o) (withLegal ok s' o') :=
  sameCode_ite Iff.rfl h

theorem sameCode_withTagged {α : Type} {r r' : Tagged α} (htag : r.tag = r'.tag) {e : CmdError} {k k' : α → Outcome}
    (hk : ∀ v v', SameCode (k v) (k' v')) : SameCode (withTagged r e s k) (withTagged r' e s' k') :=
  sameCode_ite (by rw [htag]) (hk _ _)

section SourcesAlike

variable (hs : SameTags s s')

include hs

theorem sameCode_withBytes (n : Fin 4) (len : Nat) {e : CmdError} {k k' : List Byte → Outcome}
    (hk : ∀ b b', SameCode (k b) (k' b')) : SameCode (withBytes n len e s k) (withBytes n len e s' k') :=
  sameCode_ite (by rw [hs.IOLEN]) (hk _ _)

theorem sameCode_withPairs (a : Fin 8) (b : Fin 16) (n : Nat) {k k' : List (Nat × P3) → Outcome}
    (hk : ∀ l l', SameCode (k l) (k' l')) : SameCode (withPairs a b n s k) (withPairs a b n s' k') := by
  by_cases hl : legalPairs a b n = true
  · obtain ⟨ha, hb⟩ := legalPairs_iff.1 hl
    refine sameCode_withLegal (sameCode_ite ?_ (hk _ _))
    rw [all_pairSources_tag s ha hb, all_pairSources_tag s' ha hb]
    exact forall_congr' fun k => Eq.congr_left (hs.P ⟨b.val + k.val, by omega⟩)
  · rw [withPairs, withPairs, withLegal, withLegal, if_neg hl, if_neg hl]
    exact sameCode_raise _

/-- XGET's source is a register of one of five files (R313). -/
theorem sameCode_withComponent (src : Component) {k k' : Limbs → Outcome} (hk : ∀ v v', SameCode (k v) (k' v')) :
    SameCode (withComponent src s k) (withComponent src s' k') := by
  cases src with
  | ofP r c => exact sameCode_withTagged (hs.P r) fun _ _ => hk _ _
  | ofJ r c => exact sameCode_withTagged (hs.J r) fun _ _ => hk _ _
  | ofC r c => exact sameCode_withTagged (hs.C r) fun _ _ => hk _ _
  | ofQ r c => exact sameCode_withTagged (hs.Q r) fun _ _ => hk _ _
  | ofA r c => exact sameCode_withTagged (hs.A r) fun _ _ => hk _ _

/-- The commands, grouped by the form of their sources: tags and lengths are checked alike in both states, and what comes after them
raises data errors only. -/
theorem exec_sameCode (i : Instr) : SameCode (exec i s) (exec i s') := by
  cases i with
    dsimp only [exec, execXget, execFsetb, execFldl, execSsetc, execSsetu, execSsetcl, execSnaf, execJfromp, execJfromc,
      execPfromc, execQfromp, execAfromp, execCadd, execCsub, execCadda, execCsuba, execCdbl, execLtbuild, execLtsel, execLtseli,
      execAtbuild, execAtsel, execAtseli, execBtsel, execBtseli, execNtbuild, execNtsel, execBnsel, execPmov, execPsetb,
      execPgetb, execPgetm, execPadd, execPsub, execPneg, execPeq, execPmul8, execPmull, execPext, execPsmul, execPvdsbm,
      execPmsm, execPvmsm, withP, withJ, withC, withQ, withA, withLT, withAT, withNT, withImmDigit]
  -- no source that can fail
  | nop | kset | dgst | fldc | fmov | fadd | fsub | fneg | fmul | fsqr | fmul32 | fcarry | freduce | finv | fpow | fsqrtr | fisneg
  | feq | fsel | fswap | fcneg | fgetb | fstl | smov | sadd | ssub | sneg | smul | sinv | seq | sgetb | srdx16 | pident | pgen
  | pbmul => exact sameCode_complete _ _
  | snaf | btseli | bnsel => exact sameCode_withLegal (sameCode_complete _ _)
  -- one tagged source
  | jfromp _ a | qfromp _ a | afromp _ a | ltbuild _ a | atbuild _ a | ntbuild _ a | pmov _ a | pgetb _ a | pgetm _ a | pneg _ a
  | pmul8 _ a | pmull _ a | pext _ a | psmul _ _ a | pvdsbm _ _ a =>
    exact sameCode_withTagged (hs.P a) fun _ _ => sameCode_complete _ _
  | jfromc _ a | pfromc _ a => exact sameCode_withTagged (hs.C a) fun _ _ => sameCode_complete _ _
  | cdbl _ a => exact sameCode_withTagged (hs.J a) fun _ _ => sameCode_complete _ _
  | xget _ src => exact sameCode_withComponent hs src fun _ _ => sameCode_complete _ _
  | ltseli _ a => exact sameCode_withLegal (sameCode_withTagged (hs.LT a) fun _ _ => sameCode_complete _ _)
  | atseli _ a => exact sameCode_withLegal (sameCode_withTagged (hs.AT a) fun _ _ => sameCode_complete _ _)
  | ntsel _ a => exact sameCode_withLegal (sameCode_withTagged (hs.NT a) fun _ _ => sameCode_complete _ _)
  -- two tagged sources
  | cadd _ a b | csub _ a b =>
    exact sameCode_withTagged (hs.P a) fun _ _ => sameCode_withTagged (hs.Q b) fun _ _ => sameCode_complete _ _
  | cadda _ a b | csuba _ a b =>
    exact sameCode_withTagged (hs.P a) fun _ _ => sameCode_withTagged (hs.A b) fun _ _ => sameCode_complete _ _
  | padd _ a b | psub _ a b | peq _ a b =>
    exact sameCode_withTagged (hs.P a) fun _ _ => sameCode_withTagged (hs.P b) fun _ _ => sameCode_complete _ _
  -- ranges and buffers
  | pmsm _ a b n | pvmsm _ a b n => exact sameCode_withPairs hs a b n fun _ _ => sameCode_complete _ _
  | fsetb _ n | fldl _ n | ssetu _ n | ssetcl _ n => exact sameCode_withBytes hs n _ fun _ _ => sameCode_complete _ _
  -- data errors
  | ssetc _ n | psetb _ n => exact sameCode_withBytes hs n _ fun _ _ => sameCode_withSome (by decide) _ _
  | ltsel _ a b i => exact sameCode_withTagged (hs.LT a) fun _ _ => sameCode_withDigit b i _ _
  | atsel _ a b i => exact sameCode_withTagged (hs.AT a) fun _ _ => sameCode_withDigit b i _ _
  | btsel _ _ b i => exact sameCode_withDigit b i _ _
  | psetext d a => exact sameCode_of_dataCode (dataCode_psetext d a s) (dataCode_psetext d a s')

end SourcesAlike

end Codes

/-- Settles O18: tags and lengths are checked alike in both states, and what a command checks after them raises data errors only. -/
theorem errorsFromTags : Obligations.ErrorsFromTags := by
  unfold Obligations.ErrorsFromTags
  exact fun i _ _ t t' hs => exec_sameCode hs i t t'

end Sys2Proof.Proofs

/-! The point commands (44_point.md): words, constants and transfers (O52, O53, O60), the group commands (O54), and the scalar
multiplications as the loops of their rules, position by position (O55). -/

namespace Sys2Proof.Proofs

open Sys2Proof.Machine Sys2Proof.Laws

/-! ## What a loop leaves, position by position -/

/-- The values of a downward loop's variable, one per position, and what is made of the last. -/
theorem downLoop_trace {α β : Type} (last : α → β) (step : Nat → α → α) : ∀ (n : Nat) (v : α),
    ∃ acc : Nat → α, acc n = v ∧ downLoop last step n v = last (acc 0) ∧ ∀ i < n, acc i = step i (acc (i + 1))
  | 0, v => ⟨fun _ => v, rfl, rfl, nofun⟩
  | n + 1, v => by
    obtain ⟨acc, hn, hlast, hstep⟩ := downLoop_trace last step n (step n v)
    refine ⟨Function.update acc (n + 1) v, Function.update_self _ _ _, ?_, fun i hi => ?_⟩
    · rw [Function.update_of_ne (by omega)]
      exact hlast
    · rw [Function.update_of_ne (by omega)]
      obtain hin | rfl := Nat.lt_succ_iff_lt_or_eq.1 hi
      · rw [Function.update_of_ne (by omega)]
        exact hstep i hin
      · rw [Function.update_self, hn]

/-- The values of a row loop's variable, from before the first row to after the last. -/
theorem rowLoop_trace {ρ α : Type} (step : ρ → Nat → α → α) : ∀ (rows : List ρ) (k : Nat) (v : α),
    ∃ acc : Nat → α, acc 0 = v ∧ rowLoop step rows k v = acc rows.length ∧
      ∀ i (hi : i < rows.length), acc (i + 1) = step rows[i] (k + i) (acc i)
  | [], _, v => ⟨fun _ => v, rfl, rfl, nofun⟩
  | row :: rows, k, v => by
    obtain ⟨acc, h0, hlast, hstep⟩ := rowLoop_trace step rows (k + 1) (step row k v)
    refine ⟨fun i => Nat.casesOn (motive := fun _ => α) i v acc, rfl, hlast, fun i hi => ?_⟩
    cases i with
    | zero => exact h0
    | succ i =>
      have h := hstep i (Nat.lt_of_succ_lt_succ hi)
      rw [Nat.add_right_comm] at h
      exact h

/-- A fold over one entry more. -/
theorem foldl_take_succ {α σ : Type} (f : α → σ → α) (l : List σ) (v : α) {k : Nat} (hk : k < l.length) :
    (l.take (k + 1)).foldl f v = f ((l.take k).foldl f v) l[k] := by
  rw [← List.take_append_getElem hk, List.foldl_append]
  rfl

/-! ## The rules' loops (R271, R275 to R280) -/

theorem mul16Run_iff {v r : P3} : Mul16Run v r ↔ r = ptMul16 v := by
  rw [Mul16Run, ptMul16]

theorem mul16Run_ptMul16 (v : P3) : Mul16Run v (ptMul16 v) := mul16Run_iff.2 rfl

theorem mullRun_ptMulL (u : P3) : MullRun u (ptMulL u) := by
  obtain ⟨acc, h252, hlast, hstep⟩ := downLoop_trace id (mullStep (qFromP3 u)) 252 u
  refine ⟨acc, h252, ?_, hstep⟩
  rw [ptMulL, mullLoop_eq, hlast, id_eq]

theorem smulRun_ptSmul (s : Nat) (q : P3) : SmulRun s q (ptSmul s q) := by
  obtain ⟨acc, h63, hlast, hstep⟩ := downLoop_trace id (smulStep (ltBuild q) (scRadix16 s)) 63
    (p3FromC (ptCadd ptIdent (ltSel (ltBuild q) (radix16Byte s 63))))
  refine ⟨acc, fun i => ptMul16 (acc (i + 1)), h63, ?_, fun i hi => ⟨mul16Run_ptMul16 _, hstep i hi⟩⟩
  rw [ptSmul, smulLoop_eq]
  exact hlast

/-- The digits of one parity, added from the ROM's rows. -/
theorem bmulLoop_trace (s odd : Nat) (v : P3) :
    ∃ acc : Nat → P3, acc 0 = v ∧ bmulLoop (scRadix16 s) odd BPT.toList 0 v = acc 32 ∧
      ∀ k : Fin 32, acc (k.val + 1) = p3FromC (ptCadda (acc k.val) (atSel BPT[k] (radix16Byte s (2 * k.val + odd)))) := by
  obtain ⟨acc, h0, hlast, hstep⟩ := rowLoop_trace (bmulStep (scRadix16 s) odd) BPT.toList 0 v
  rw [BPT.length_toList] at hlast
  refine ⟨acc, h0, ?_, fun k => ?_⟩
  · rw [bmulLoop_eq]
    exact hlast
  · have h := hstep k.val (BPT.length_toList.symm ▸ k.isLt)
    rw [Vector.getElem_toList, Nat.zero_add] at h
    exact h

theorem bmulRun_ptBmul (s : Nat) : BmulRun s (ptBmul s) := by
  obtain ⟨odd, hodd0, hodd32, hodd⟩ := bmulLoop_trace s 1 ptIdent
  obtain ⟨even, heven0, heven32, heven⟩ := bmulLoop_trace s 0 (ptMul16 (bmulLoop (scRadix16 s) 1 BPT.toList 0 ptIdent))
  refine ⟨odd, even, hodd0, ?_, heven32, fun k => ⟨hodd k, heven k⟩⟩
  rw [heven0, hodd32]
  exact mul16Run_ptMul16 _

theorem nafStep_nafAdd (t : ProjTable) (x : Int) (c : P1xP1) : NafStep t x c (nafAdd t x c) := by
  refine ⟨fun h => ?_, fun h => ?_, fun h => ?_⟩
  · rw [nafAdd, if_pos h, show x.natAbs = x.toNat by omega]
  · rw [nafAdd, if_neg (by omega), if_pos h, show x.natAbs = (-x).toNat by omega]
  · rw [nafAdd, if_neg (by omega), if_neg (by omega)]

theorem nafBaseStep_nafAddBase (x : Int) (c : P1xP1) : NafBaseStep x c (nafAddBase x c) := by
  refine ⟨fun h => ?_, fun h => ?_, fun h => ?_⟩
  · rw [nafAddBase, if_pos h, show x.natAbs = x.toNat by omega]
  · rw [nafAddBase, if_neg (by omega), if_pos h, show x.natAbs = (-x).toNat by omega]
  · rw [nafAddBase, if_neg (by omega), if_neg (by omega)]

/-- The shared loop of R278 and R280: the projective accumulator before each position. -/
theorem dblAddLoop_trace (add : Nat → P1xP1 → P1xP1) (n : Nat) (v : P2) :
    ∃ j : Nat → P2, j n = v ∧ dblAddLoop add n v = p3FromC (add 0 (ptCdbl (j 0))) ∧
      ∀ i < n, j i = p2FromC (add (i + 1) (ptCdbl (j (i + 1)))) := by
  rw [dblAddLoop_eq]
  exact downLoop_trace _ (dblAddStep add) n v

theorem vdsbmRun_ptVdsbm (a : Nat) (u : P3) (b : Nat) : VdsbmRun a u b (ptVdsbm a u b) := by
  obtain ⟨j, h255, hlast, hstep⟩ := dblAddLoop_trace
    (fun i c => nafAddBase (digitAt (scNaf b 8) i) (nafAdd (ntBuild u) (digitAt (scNaf a 5) i) c)) 255 jIdent
  exact ⟨j, fun i => nafAdd (ntBuild u) (digitAt (scNaf a 5) i) (ptCdbl (j i)),
    fun i => nafAddBase (digitAt (scNaf b 8) i) (nafAdd (ntBuild u) (digitAt (scNaf a 5) i) (ptCdbl (j i))), h255, hlast, hstep,
    fun i _ => ⟨nafStep_nafAdd _ _ _, nafBaseStep_nafAddBase _ _⟩⟩

/-- The tables and digits of the pairs of a multi-scalar command. -/
def tablePairs {n : Nat} (build : P3 → ProjTable) (recode : Nat → List Int) (s : Fin n → Nat) (q : Fin n → P3) :
    List (ProjTable × List Int) :=
  (List.finRange n).map fun k => (build (q k), recode (s k))

section Pairs

variable {n : Nat} (build : P3 → ProjTable) (recode : Nat → List Int) (s : Fin n → Nat) (q : Fin n → P3)

theorem length_tablePairs : (tablePairs build recode s q).length = n := by
  rw [tablePairs, List.length_map, List.length_finRange]

/-- All pairs folded. -/
theorem foldl_take_tablePairs {α : Type} (f : α → ProjTable × List Int → α) (v : α) :
    ((tablePairs build recode s q).take n).foldl f v = (tablePairs build recode s q).foldl f v := by
  rw [List.take_of_length_le (length_tablePairs build recode s q).le]

theorem foldl_take_succ_tablePairs {α : Type} (f : α → ProjTable × List Int → α) (v : α) (k : Fin n) :
    ((tablePairs build recode s q).take (k.val + 1)).foldl f v =
      f (((tablePairs build recode s q).take k.val).foldl f v) (build (q k), recode (s k)) := by
  rw [foldl_take_succ f _ v ((length_tablePairs build recode s q).symm ▸ k.isLt)]
  simp only [tablePairs, List.getElem_map, List.getElem_finRange, Fin.cast_mk, Fin.eta]

end Pairs

/-- PMSM's accumulator at position `i` after `k` pairs, `v` being its values between positions; above position 63 the identity. -/
def msmPartial (pairs : List (ProjTable × List Int)) (v : Nat → P3) (i k : Nat) : P3 :=
  if i < 64 then msmAdd (pairs.take k) i (ptMul16 (v (i + 1))) else ptIdent

theorem ptMsm_eq {n : Nat} (s : Fin n → Nat) (q : Fin n → P3) :
    ptMsm ((List.finRange n).map fun k => (s k, q k)) = downLoop id (msmStep (tablePairs ltBuild scRadix16 s q)) 64 ptIdent := by
  rw [ptMsm, List.map_map, msmLoop_eq]
  rfl

theorem msmRun_ptMsm {n : Nat} (s : Fin n → Nat) (q : Fin n → P3) :
    MsmRun n s q (ptMsm ((List.finRange n).map fun k => (s k, q k))) := by
  obtain ⟨v, h64, hlast, hstep⟩ := downLoop_trace id (msmStep (tablePairs ltBuild scRadix16 s q)) 64 ptIdent
  have hv : ∀ i ≤ 64, msmPartial (tablePairs ltBuild scRadix16 s q) v i n = v i := by
    intro i hi
    unfold msmPartial
    split
    · next h => rw [hstep i h, msmStep, msmAdd, msmAdd, foldl_take_tablePairs]
    · next h => rw [show i = 64 by omega, h64]
  refine ⟨msmPartial (tablePairs ltBuild scRadix16 s q) v, ?_, ?_, fun i hi => ⟨?_, fun k => ?_⟩⟩
  · rw [hv 64 le_rfl, h64]
  · rw [hv 0 (by omega), ptMsm_eq, hlast, id_eq]
  · rw [hv (i + 1) hi, msmPartial, if_pos hi]
    exact mul16Run_ptMul16 _
  · rw [msmPartial, msmPartial, if_pos hi, if_pos hi, msmAdd, msmAdd, foldl_take_succ_tablePairs]
    rfl

/-- The pairs of PVMSM: width-5 tables and digits (R280). -/
def nafPairs {n : Nat} (s : Fin n → Nat) (q : Fin n → P3) : List (ProjTable × List Int) :=
  tablePairs ntBuild (fun x => scNaf x 5) s q

theorem ptVmsm_eq {n : Nat} (s : Fin n → Nat) (q : Fin n → P3) :
    ptVmsm ((List.finRange n).map fun k => (s k, q k)) = dblAddLoop (vmsmAdd (nafPairs s q)) 255 jIdent := by
  rw [ptVmsm, List.map_map]
  rfl

theorem vmsmAdd_take_all {n : Nat} (s : Fin n → Nat) (q : Fin n → P3) (i : Nat) (c : P1xP1) :
    vmsmAdd ((nafPairs s q).take n) i c = vmsmAdd (nafPairs s q) i c :=
  foldl_take_tablePairs ntBuild _ s q _ c

theorem vmsmAdd_take_succ {n : Nat} (s : Fin n → Nat) (q : Fin n → P3) (i : Nat) (c : P1xP1) (k : Fin n) :
    vmsmAdd ((nafPairs s q).take (k.val + 1)) i c =
      nafAdd (ntBuild (q k)) ((scNaf (s k) 5).getD i 0) (vmsmAdd ((nafPairs s q).take k.val) i c) :=
  foldl_take_succ_tablePairs ntBuild _ s q _ c k

theorem vmsmRun_ptVmsm {n : Nat} (s : Fin n → Nat) (q : Fin n → P3) :
    VmsmRun n s q (ptVmsm ((List.finRange n).map fun k => (s k, q k))) := by
  obtain ⟨j, h255, hlast, hstep⟩ := dblAddLoop_trace (vmsmAdd (nafPairs s q)) 255 jIdent
  refine ⟨j, fun i k => vmsmAdd ((nafPairs s q).take k) i (ptCdbl (j i)), h255, ?_, fun i hi => ?_,
    fun i _ => ⟨rfl, fun k => ?_⟩⟩
  · rw [ptVmsm_eq, hlast, ← vmsmAdd_take_all]
  · rw [hstep i hi, ← vmsmAdd_take_all]
  · dsimp only
    rw [vmsmAdd_take_succ]
    exact nafStep_nafAdd _ _ _

/-! ## Commands -/

theorem withTagged_of_not_tag {α : Type} {r : Tagged α} (h : r.tag = false) (e : CmdError) (s : State) (k : α → Outcome) :
    withTagged r e s k = raise e s := if_neg (by rw [h]; decide)

/-- Settles O52: the words are the encodings of the commands (O1), the constants are the printed limbs, and PMOV goes on with its
source's value if its tag is set. -/
theorem pointConstants : Obligations.PointConstants := by
  unfold Obligations.PointConstants
  have hgen : genPoint = ⟨⟨0x62d608f25d51a, 0x412a4b4f6592a, 0x75b7171a4b31d, 0x1ff60527118fe, 0x216936d3cd6e5⟩,
      ⟨0x6666666666658, 0x4cccccccccccc, 0x1999999999999, 0x3333333333333, 0x6666666666666⟩, ⟨1, 0, 0, 0, 0⟩,
      ⟨0x68ab3a5b7dda3, 0x00eea2a5eadbb, 0x2af8df483c27e, 0x332b375274732, 0x67875f0fd78b7⟩⟩ := by decide
  refine fun s d a => ⟨⟨decodeEncode (.pident d) rfl, rfl⟩, ⟨decodeEncode (.pgen d) rfl, ?pgen⟩,
    decodeEncode (.pmov d a) rfl, fun hP => ?pmov, fun hP => ?uninitialized⟩
  case pgen =>
    rw [← hgen]
    rfl
  case pmov =>
    rw [exec, execPmov, withP, withTagged_of_tag hP]
    rfl
  case uninitialized =>
    rw [exec, execPmov, withP, withTagged_of_not_tag hP]
    rfl

/-- Settles O53: each command's check passes, and it completes the write of its value. -/
theorem pointTransfers : Obligations.PointTransfers := by
  unfold Obligations.PointTransfers
  refine fun s => ⟨fun d n q hlen hq => ?psetb, fun d a hP => ?pext, fun d a hdom hcurve => ?psetext⟩
  case psetb =>
    rw [exec, execPsetb, withBytes_of_length (len := 32) (congrArg BitVec.toNat hlen), hq]
    rfl
  case pext =>
    rw [exec, execPext, withP, withTagged_of_tag hP]
    rfl
  case psetext =>
    rw [exec, execPsetext, if_pos ((ptOnCurve_iff hdom).2 hcurve)]
    rfl

/-- Settles O54: with its sources initialised each command goes on with their values; PMULL's loop is read off by position. -/
theorem pointGroup : Obligations.PointGroup := by
  unfold Obligations.PointGroup
  refine fun s a b ha hb => ⟨fun d => ?padd, fun d => ?psub, fun d => ?pneg, fun k => ?peq, fun d => ?pmul8,
    fun d => ⟨?pmull, mullRun_ptMulL _⟩⟩
  case padd =>
    rw [exec, execPadd, withP, withTagged_of_tag ha, withP, withTagged_of_tag hb]
    rfl
  case psub =>
    rw [exec, execPsub, withP, withTagged_of_tag ha, withP, withTagged_of_tag hb]
    rfl
  case pneg =>
    rw [exec, execPneg, withP, withTagged_of_tag ha]
    rfl
  case peq =>
    rw [exec, execPeq, withP, withTagged_of_tag ha, withP, withTagged_of_tag hb]
    rfl
  case pmul8 =>
    rw [exec, execPmul8, withP, withTagged_of_tag ha, ptMul8]
    rfl
  case pmull =>
    rw [exec, execPmull, withP, withTagged_of_tag ha]
    rfl

/-- The sources of a multi-scalar command on a legal range whose points are initialised (R102, R279). -/
theorem withPairs_of_tags {s : State} {a : Fin 8} {b : Fin 16} {n : Nat} (ha : a.val + n ≤ 8) (hb : b.val + n ≤ 16)
    (htag : ∀ k : Fin n, (s.P[b.val + k.val]'(by omega)).tag = true) (k : List (Nat × P3) → Outcome) :
    withPairs a b n s k = k ((List.finRange n).map fun i =>
      ((s.S[a.val + i.val]'(by omega)).toNat, (s.P[b.val + i.val]'(by omega)).val)) := by
  rw [withPairs, withLegal_of_legal (legalPairs_iff.2 ⟨ha, hb⟩), if_pos ((all_pairSources_tag s ha hb).2 htag),
    pairSources_eq s ha hb, List.map_map]
  rfl

/-- Settles O55: each command goes on with its sources' values, and its function leaves what its rule's loop does. -/
theorem scalarMultiplications : Obligations.ScalarMultiplications := by
  unfold Obligations.ScalarMultiplications
  refine fun s => ⟨fun d a b hP => ⟨_, ?psmul, rfl, smulRun_ptSmul _ _⟩, fun d a => ⟨_, ?pbmul, rfl, bmulRun_ptBmul _⟩,
    fun d a b c hP => ⟨_, ?pvdsbm, rfl, vdsbmRun_ptVdsbm _ _ _⟩, fun d a b n ha hb htag =>
      ⟨⟨_, ?pmsm, rfl, msmRun_ptMsm _ _⟩, ⟨_, ?pvmsm, rfl, vmsmRun_ptVmsm _ _⟩⟩⟩
  case psmul =>
    rw [exec, execPsmul, withP, withTagged_of_tag hP]
    rfl
  case pbmul => rfl
  case pvdsbm =>
    rw [exec, execPvdsbm, withP, withTagged_of_tag hP]
    rfl
  case pmsm =>
    rw [exec, execPmsm, withPairs_of_tags ha hb htag]
    rfl
  case pvmsm =>
    rw [exec, execPvmsm, withPairs_of_tags ha hb htag]
    rfl

/-! ## The degenerate point (R273, R368) -/

/-- Zero times any vector is zero, limb for limb and outside the domain too (R127). -/
theorem feMul_zero_left (a : Limbs) : feMul .zero a = .zero := by
  have h0 : (0 : U64).toNat = 0 := rfl
  simp only [feMul, Limbs.zero, h0, Nat.zero_mul, Nat.mul_zero, Nat.add_zero]
  decide

theorem feMul_zero_right (a : Limbs) : feMul a .zero = .zero := by
  have h0 : (0 : U64).toNat = 0 := rfl
  simp only [feMul, Limbs.zero, h0, Nat.mul_zero, Nat.add_zero]
  decide

theorem ptEq_zero_right (u : P3) : ptEq u ⟨.zero, .zero, .zero, .zero⟩ = true := by
  simp only [ptEq, feMul_zero_left, feMul_zero_right]
  decide

theorem ptEq_zero_left (u : P3) : ptEq ⟨.zero, .zero, .zero, .zero⟩ u = true := by
  simp only [ptEq, feMul_zero_left, feMul_zero_right]
  decide

/-- Settles O60: a product with a zero vector is zero, in PEQ and in both encodings, whatever the inverse. -/
theorem degeneratePoint : Obligations.DegeneratePoint := by
  unfold Obligations.DegeneratePoint
  refine ⟨fun s d a hF => ?psetext, fun u => ⟨ptEq_zero_right u, ptEq_zero_left u⟩, ?ptBytes, ?ptMontgomery⟩
  case psetext =>
    have hq : readQuad a s = ⟨.zero, .zero, .zero, .zero⟩ := by simp only [readQuad, hF]
    rw [exec, execPsetext, hq, if_pos (by decide)]
    rfl
  case ptBytes =>
    simp only [ptBytes, feMul_zero_left]
    decide
  case ptMontgomery =>
    have hsum : feAdd .zero .zero = .zero := by decide
    simp only [ptMontgomery, hsum, feMul_zero_left]
    decide

end Sys2Proof.Proofs

/-! The group laws (44_point.md R282): O59. Points are compared by their extended coordinates as field elements: an operation on
coordinates gives the coordinates of the result, and PEQ holds of two points whose coordinates are proportional. -/

namespace Sys2Proof.Proofs

open Sys2Proof.Machine Sys2Proof.Laws

/-! ## Extended coordinates -/

/-- The components of `v` are in the domain and represent `x`, `y`, `z`, `t`, extended coordinates of one point (R200). -/
structure Coords (v : P3) (x y z t : ZMod fieldP) : Prop where
  X : Rep v.X x
  Y : Rep v.Y y
  Z : Rep v.Z z
  T : Rep v.T t
  segre : x * y = t * z

/-- `v`'s coordinates are those of `u`, all times one field element. -/
def Multiple (u v : P3) : Prop := ∃ k x y z t, Coords u x y z t ∧ Coords v (k * x) (k * y) (k * z) (k * t)

section Coordinates

variable {u v w : P3} {x y z t : ZMod fieldP}

theorem Coords.inDomain (h : Coords u x y z t) : u.inDomain := ⟨h.X.domain, h.Y.domain, h.Z.domain, h.T.domain⟩

/-- The coordinates rewritten. -/
theorem Coords.congr (h : Coords u x y z t) {x' y' z' t' : ZMod fieldP} (hx : x = x') (hy : y = y') (hz : z = z') (ht : t = t') :
    Coords u x' y' z' t' := by
  subst hx hy hz ht
  exact h

theorem coords_of_good (h : GoodP u) : Coords u (toField u.X) (toField u.Y) (toField u.Z) (toField u.T) := by
  obtain ⟨⟨hX, hY, hZ, hT⟩, -, hsegre⟩ := h
  exact ⟨rep_self hX, rep_self hY, rep_self hZ, rep_self hT, hsegre⟩

theorem multiple_refl (h : Coords u x y z t) : Multiple u u :=
  ⟨1, x, y, z, t, h, h.congr (one_mul x).symm (one_mul y).symm (one_mul z).symm (one_mul t).symm⟩

/-- The coordinates of a multiple, from any of the point. -/
theorem Multiple.coords (h : Multiple u v) (hu : Coords u x y z t) : ∃ k, Coords v (k * x) (k * y) (k * z) (k * t) := by
  obtain ⟨k, x', y', z', t', hu', hv⟩ := h
  refine ⟨k, hv.congr ?_ ?_ ?_ ?_⟩
  · rw [← hu.X.value, hu'.X.value]
  · rw [← hu.Y.value, hu'.Y.value]
  · rw [← hu.Z.value, hu'.Z.value]
  · rw [← hu.T.value, hu'.T.value]

theorem Multiple.trans (h : Multiple u v) (h' : Multiple v w) : Multiple u w := by
  obtain ⟨k, x, y, z, t, hu, hv⟩ := h
  obtain ⟨k', hw⟩ := h'.coords hv
  exact ⟨k' * k, x, y, z, t, hu, hw.congr (by ring) (by ring) (by ring) (by ring)⟩

/-- PEQ compares by cross multiplication (R269), so proportional coordinates are equal. -/
theorem ptEq_of_multiple (h : Multiple u v) : ptEq u v = true := by
  obtain ⟨k, x, y, z, t, hu, hv⟩ := h
  rw [ptEq_iff hu.inDomain hv.inDomain, hu.X.value, hu.Y.value, hu.Z.value, hv.X.value, hv.Y.value, hv.Z.value]
  exact ⟨by ring, by ring⟩

theorem ptEq_of_multiple_symm (h : Multiple u v) : ptEq v u = true := by
  obtain ⟨k, x, y, z, t, hu, hv⟩ := h
  rw [ptEq_iff hv.inDomain hu.inDomain, hu.X.value, hu.Y.value, hu.Z.value, hv.X.value, hv.Y.value, hv.Z.value]
  exact ⟨by ring, by ring⟩

theorem coords_ident : Coords ptIdent 0 1 1 0 := ⟨rep_zero, rep_one, rep_one, rep_zero, rfl⟩

theorem coords_ptNeg (hu : Coords u x y z t) : Coords (ptNeg u) (-x) y z (-t) := by
  rw [ptNeg]
  exact ⟨rep_neg hu.X, hu.Y, hu.Z, rep_neg hu.T, by rw [neg_mul, neg_mul, hu.segre]⟩

theorem coords_p3FromC {c : P1xP1} (h : CompletedTerms c x y z t) : Coords (p3FromC c) (x * t) (y * z) (z * t) (x * y) := by
  obtain ⟨rfl, rfl, rfl, rfl, hX, hY, hZ, hT⟩ := h
  exact ⟨rep_mul (rep_self hX) (rep_self hT), rep_mul (rep_self hY) (rep_self hZ), rep_mul (rep_self hZ) (rep_self hT),
    rep_mul (rep_self hX) (rep_self hY), by ring⟩

end Coordinates

/-! ## The adder (R207 to R210) -/

/-- `q` caches the point with these coordinates (R200). -/
structure Caches (q : ProjCached) (x y z t : ZMod fieldP) : Prop where
  YpX : Rep q.YpX (y + x)
  YmX : Rep q.YmX (y - x)
  Z : Rep q.Z z
  T2d : Rep q.T2d (2 * dField * t)

/-- `q` caches the point with these coordinates and `Z = 1` (R200). -/
structure CachesAffine (q : AffineCached) (x y t : ZMod fieldP) : Prop where
  YpX : Rep q.YpX (y + x)
  YmX : Rep q.YmX (y - x)
  T2d : Rep q.T2d (2 * dField * t)

/-- The completed value `c` is the sum of the two points with these coordinates. -/
def SumTerms (c : P1xP1) (x1 y1 z1 t1 x2 y2 z2 t2 : ZMod fieldP) : Prop :=
  CompletedTerms c (2 * (x1 * y2 + y1 * x2)) (2 * (y1 * y2 + x1 * x2)) (2 * (z1 * z2 + dField * t1 * t2))
    (2 * (z1 * z2 - dField * t1 * t2))

section Sums

variable {u v : P3} {q : ProjCached} {e : AffineCached} {c : P1xP1} {x y z t x1 y1 z1 t1 x2 y2 z2 t2 k : ZMod fieldP}

theorem caches_qFromP3 (hu : Coords u x y z t) : Caches (qFromP3 u) x y z t := by
  have hT := rep_mul hu.T rep_d2
  rw [mul_comm] at hT
  exact ⟨rep_add hu.Y hu.X, rep_sub hu.Y hu.X, hu.Z, hT⟩

theorem caches_qIdent : Caches qIdent 0 1 1 0 :=
  ⟨by rw [add_zero]; exact rep_one, by rw [sub_zero]; exact rep_one, rep_one, rep_two_d_zero⟩

theorem cachesAffine_aIdent : CachesAffine aIdent 0 1 0 :=
  ⟨by rw [add_zero]; exact rep_one, by rw [sub_zero]; exact rep_one, rep_two_d_zero⟩

/-- The adder behind R207 to R210, on coordinates. -/
theorem sumTerms_adder {a b t2d zz2 : Limbs} (hu : Coords u x1 y1 z1 t1) (ha : Rep a (y2 + x2)) (hb : Rep b (y2 - x2))
    (ht : Rep t2d (2 * dField * t2)) (hw : Rep zz2 (2 * (z1 * z2))) :
    SumTerms
      ⟨feSub (feMul (feAdd u.Y u.X) a) (feMul (feSub u.Y u.X) b), feAdd (feMul (feAdd u.Y u.X) a) (feMul (feSub u.Y u.X) b),
        feAdd zz2 (feMul u.T t2d), feSub zz2 (feMul u.T t2d)⟩ x1 y1 z1 t1 x2 y2 z2 t2 := by
  obtain ⟨eX, eY, eZ, eT, hdom⟩ := completedTerms_adder hu.inDomain ha.domain hb.domain ht.domain hw
  rw [hu.X.value, hu.Y.value, ha.value, hb.value] at eX eY
  rw [hu.T.value, ht.value] at eZ eT
  exact ⟨eX.trans (by ring), eY.trans (by ring), eZ.trans (by ring), eT.trans (by ring), hdom⟩

theorem sumTerms_ptCadd (hu : Coords u x1 y1 z1 t1) (hq : Caches q x2 y2 z2 t2) :
    SumTerms (ptCadd u q) x1 y1 z1 t1 x2 y2 z2 t2 :=
  sumTerms_adder hu hq.YpX hq.YmX hq.T2d (rep_add_self (rep_mul hu.Z hq.Z))

theorem sumTerms_ptCadda (hu : Coords u x1 y1 z1 t1) (he : CachesAffine e x2 y2 t2) :
    SumTerms (ptCadda u e) x1 y1 z1 t1 x2 y2 1 t2 :=
  sumTerms_adder hu he.YpX he.YmX he.T2d (by rw [mul_one]; exact rep_add_self hu.Z)

/-- Subtraction exchanges YpX with YmX, and Z with T (R208). -/
theorem completedTerms_ptCsub (hu : Coords u x1 y1 z1 t1) (hq : Caches q x2 y2 z2 t2) :
    CompletedTerms (ptCsub u q) (2 * (x1 * y2 + y1 * -x2)) (2 * (y1 * y2 + x1 * -x2)) (2 * (z1 * z2 - dField * t1 * t2))
      (2 * (z1 * z2 + dField * t1 * t2)) :=
  have hM : Rep q.YmX (y2 + -x2) := sub_eq_add_neg y2 x2 ▸ hq.YmX
  have hP : Rep q.YpX (y2 - -x2) := (sub_neg_eq_add y2 x2).symm ▸ hq.YpX
  (sumTerms_adder hu hM hP hq.T2d (rep_add_self (rep_mul hu.Z hq.Z))).swapZT

/-- Adding the identity keeps the point. -/
theorem SumTerms.add_ident (hc : SumTerms c x y z t 0 1 1 0) (hu : Coords u x y z t) : Multiple u (p3FromC c) :=
  ⟨4 * z, x, y, z, t, hu, (coords_p3FromC hc).congr (by ring) (by ring) (by ring) (by linear_combination 4 * hu.segre)⟩

/-- Adding to the identity, in any of its coordinates, gives the point. -/
theorem SumTerms.ident_add (hc : SumTerms c (k * 0) (k * 1) (k * 1) (k * 0) x y z t) (hu : Coords u x y z t) :
    Multiple u (p3FromC c) :=
  ⟨4 * k ^ 2 * z, x, y, z, t, hu,
    (coords_p3FromC hc).congr (by ring) (by ring) (by ring) (by linear_combination 4 * k ^ 2 * hu.segre)⟩

/-- An added lookup of digit 0 keeps the point (R234, R235). -/
theorem multiple_ptCadd_qIdent (h : Multiple u v) : Multiple u (p3FromC (ptCadd v qIdent)) := by
  have ⟨_, _, _, _, _, _, hv⟩ := h
  exact h.trans ((sumTerms_ptCadd hv caches_qIdent).add_ident hv)

theorem multiple_ptCadda_aIdent (h : Multiple u v) : Multiple u (p3FromC (ptCadda v aIdent)) := by
  have ⟨_, _, _, _, _, _, hv⟩ := h
  exact h.trans ((sumTerms_ptCadda hv cachesAffine_aIdent).add_ident hv)

theorem multiple_ident_ptCadd (h : Multiple ptIdent v) (hu : Coords u x y z t) (hq : Caches q x y z t) :
    Multiple u (p3FromC (ptCadd v q)) := by
  obtain ⟨k, hv⟩ := h.coords coords_ident
  exact (sumTerms_ptCadd hv hq).ident_add hu

theorem multiple_ident_ptCadda (h : Multiple ptIdent v) (hu : Coords u x y 1 t) (he : CachesAffine e x y t) :
    Multiple u (p3FromC (ptCadda v e)) := by
  obtain ⟨k, hv⟩ := h.coords coords_ident
  exact (sumTerms_ptCadda hv he).ident_add hu

end Sums

/-! ## The doubler (R211) -/

/-- A doubling of a P3 point (R202, R211, R204). -/
def ptDouble (u : P3) : P3 := p3FromC (ptCdbl (p2FromP3 u))

section Doubling

variable {u v : P3} {x y z t : ZMod fieldP}

theorem coords_ptDouble (hu : Coords u x y z t) :
    Coords (ptDouble u) (2 * x * y * (2 * z ^ 2 - (y ^ 2 - x ^ 2))) ((y ^ 2 + x ^ 2) * (y ^ 2 - x ^ 2))
      ((y ^ 2 - x ^ 2) * (2 * z ^ 2 - (y ^ 2 - x ^ 2))) (2 * x * y * (y ^ 2 + x ^ 2)) := by
  have h := coords_p3FromC (completedTerms_ptCdbl (j := p2FromP3 u) ⟨hu.X.domain, hu.Y.domain, hu.Z.domain⟩)
  have hX : toField (p2FromP3 u).X = x := hu.X.value
  have hY : toField (p2FromP3 u).Y = y := hu.Y.value
  have hZ : toField (p2FromP3 u).Z = z := hu.Z.value
  rw [hX, hY, hZ] at h
  exact h

/-- The doubling law is homogeneous, of degree 4. -/
theorem multiple_ptDouble (h : Multiple u v) : Multiple (ptDouble u) (ptDouble v) := by
  obtain ⟨k, x, y, z, t, hu, hv⟩ := h
  exact ⟨k ^ 4, _, _, _, _, coords_ptDouble hu, (coords_ptDouble hv).congr (by ring) (by ring) (by ring) (by ring)⟩

theorem multiple_ident_ptDouble (h : Multiple ptIdent v) : Multiple ptIdent (ptDouble v) := by
  obtain ⟨k, hv⟩ := h.coords coords_ident
  exact ⟨k ^ 4, 0, 1, 1, 0, coords_ident, (coords_ptDouble hv).congr (by ring) (by ring) (by ring) (by ring)⟩

/-- On the curve, adding a point to itself gives 4 times the coordinates of its double. -/
theorem multiple_ptAdd_self (h : GoodP u) : Multiple (ptDouble u) (ptAdd u u) := by
  have hcurve := h.2.1
  have hu := coords_of_good h
  have hsum := coords_p3FromC (sumTerms_ptCadd hu (caches_qFromP3 hu))
  generalize toField u.X = x at *
  generalize toField u.Y = y at *
  generalize toField u.Z = z at *
  generalize toField u.T = t at *
  refine ⟨4, _, _, _, _, coords_ptDouble hu, hsum.congr ?_ ?_ ?_ ?_⟩
  · linear_combination 8 * x * y * hcurve
  · linear_combination -4 * (y ^ 2 + x ^ 2) * hcurve
  · linear_combination -4 * (z ^ 2 - dField * t ^ 2 - (y ^ 2 - x ^ 2)) * hcurve
  · ring

/-- Going through P3 between doublings gives what going through P2 does (R202 to R204). -/
theorem p2FromP3_p3FromC (c : P1xP1) : p2FromP3 (p3FromC c) = p2FromC c := rfl

theorem ptMul8_eq (u : P3) : ptMul8 u = ptDouble (ptDouble (ptDouble u)) := by
  simp only [ptMul8, ptDouble, p2FromP3_p3FromC]

theorem ptMul16_eq (u : P3) : ptMul16 u = ptDouble (ptDouble (ptDouble (ptDouble u))) := by
  simp only [ptMul16, ptDouble, p2FromP3_p3FromC]

theorem multiple_ident_ptMul16 (h : Multiple ptIdent v) : Multiple ptIdent (ptMul16 v) := by
  rw [ptMul16_eq]
  exact multiple_ident_ptDouble (multiple_ident_ptDouble (multiple_ident_ptDouble (multiple_ident_ptDouble h)))

/-- Three doublings and three sums of a point with itself (R270, R282). -/
theorem multiple_ptMul8 (h : GoodP u) :
    Multiple (ptMul8 u) (ptAdd (ptAdd (ptAdd u u) (ptAdd u u)) (ptAdd (ptAdd u u) (ptAdd u u))) := by
  have h2 := goodP_ptAdd h h
  have h4 := goodP_ptAdd h2 h2
  have m2 : Multiple (ptDouble u) (ptAdd u u) := multiple_ptAdd_self h
  have m4 : Multiple (ptDouble (ptDouble u)) (ptAdd (ptAdd u u) (ptAdd u u)) :=
    (multiple_ptDouble m2).trans (multiple_ptAdd_self h2)
  rw [ptMul8_eq]
  exact (multiple_ptDouble m4).trans (multiple_ptAdd_self h4)

end Doubling

/-! ## The laws of any two points (R282) -/

section Laws

variable {u v : P3} {x y z t x' y' z' t' : ZMod fieldP}

theorem multiple_ptAdd_comm (hu : Coords u x y z t) (hv : Coords v x' y' z' t') : Multiple (ptAdd u v) (ptAdd v u) :=
  ⟨1, _, _, _, _, coords_p3FromC (sumTerms_ptCadd hu (caches_qFromP3 hv)),
    (coords_p3FromC (sumTerms_ptCadd hv (caches_qFromP3 hu))).congr (by ring) (by ring) (by ring) (by ring)⟩

theorem multiple_ptAdd_ident (hu : Coords u x y z t) : Multiple u (ptAdd u ptIdent) :=
  (sumTerms_ptCadd hu (caches_qFromP3 coords_ident)).add_ident hu

/-- A point less itself has X = T = 0, and by the curve equation Y = Z. -/
theorem multiple_ident_ptSub_self (h : GoodP u) : Multiple ptIdent (ptSub u u) := by
  have hcurve := h.2.1
  have hu := coords_of_good h
  refine ⟨_, 0, 1, 1, 0, coords_ident,
    (coords_p3FromC (completedTerms_ptCsub hu (caches_qFromP3 hu))).congr ?_ ?_ (mul_one _).symm ?_⟩
  · ring
  · linear_combination 4 * (toField u.Z ^ 2 - dField * toField u.T ^ 2) * hcurve
  · ring

theorem multiple_ident_ptAdd_neg (h : GoodP u) : Multiple ptIdent (ptAdd u (ptNeg u)) := by
  have hcurve := h.2.1
  have hu := coords_of_good h
  refine ⟨_, 0, 1, 1, 0, coords_ident,
    (coords_p3FromC (sumTerms_ptCadd hu (caches_qFromP3 (coords_ptNeg hu)))).congr ?_ ?_ (mul_one _).symm ?_⟩
  · ring
  · linear_combination 4 * (toField u.Z ^ 2 - dField * toField u.T ^ 2) * hcurve
  · ring

end Laws

/-! ## The generator (R275, R277, R271) -/

theorem radix16Byte_zero : ∀ i < 64, radix16Byte 0 i = 0 := by decide +kernel

theorem radix16Byte_one_zero : radix16Byte 1 0 = 1 := by decide +kernel

theorem radix16Byte_one : ∀ i < 64, 0 < i → radix16Byte 1 i = 0 := by decide +kernel

/-- PSMUL's accumulator stays at the identity down to position `k` if the digits from there on are 0 (R275). -/
theorem multiple_ident_smul {t : ProjTable} {s k : Nat} {acc m : Nat → P3}
    (h63 : acc 63 = p3FromC (ptCadd ptIdent (ltSel t (radix16Byte s 63))))
    (hstep : ∀ i < 63, Mul16Run (acc (i + 1)) (m i) ∧ acc i = p3FromC (ptCadd (m i) (ltSel t (radix16Byte s i))))
    (hk : k ≤ 63) (hz : ∀ i < 64, k ≤ i → radix16Byte s i = 0) : Multiple ptIdent (acc k) := by
  induction hk using Nat.decreasingInduction with
  | self =>
    rw [h63, hz 63 (by omega) le_rfl, ltSel_zero]
    exact multiple_ptCadd_qIdent (multiple_refl coords_ident)
  | of_succ i hi ih =>
    obtain ⟨hm, hacc⟩ := hstep i hi
    rw [hacc, mul16Run_iff.1 hm, hz i (by omega) le_rfl, ltSel_zero]
    exact multiple_ptCadd_qIdent (multiple_ident_ptMul16 (ih fun j hj hij => hz j hj (by omega)))

theorem multiple_ident_ptSmul_zero (q : P3) : Multiple ptIdent (ptSmul 0 q) := by
  obtain ⟨acc, m, h63, hlast, hstep⟩ := smulRun_ptSmul 0 q
  rw [hlast]
  exact multiple_ident_smul h63 hstep (by omega) fun i hi _ => radix16Byte_zero i hi

theorem multiple_ptSmul_one {q : P3} {x y z t : ZMod fieldP} (hq : Coords q x y z t) : Multiple q (ptSmul 1 q) := by
  obtain ⟨acc, m, h63, hlast, hstep⟩ := smulRun_ptSmul 1 q
  obtain ⟨hm, hacc⟩ := hstep 0 (by omega)
  have h1 : Multiple ptIdent (acc 1) := multiple_ident_smul h63 hstep (by omega) radix16Byte_one
  have hsel : ltSel (ltBuild q) 1 = qFromP3 q := ltSel_pos (ltBuild q) 0
  rw [hlast, hacc, mul16Run_iff.1 hm, radix16Byte_one_zero, hsel]
  exact multiple_ident_ptCadd (multiple_ident_ptMul16 h1) hq (caches_qFromP3 hq)

/-- PBMUL's accumulator keeps its point over rows whose digits are 0 (R277). -/
theorem multiple_rows {u : P3} {acc : Nat → P3} {byte : Nat → Byte} {j : Nat} (hj : Multiple u (acc j))
    (hstep : ∀ k : Fin 32, acc (k.val + 1) = p3FromC (ptCadda (acc k.val) (atSel BPT[k] (byte k.val))))
    (hz : ∀ k < 32, j ≤ k → byte k = 0) {n : Nat} (hn : j ≤ n) : n ≤ 32 → Multiple u (acc n) := by
  induction n, hn using Nat.le_induction with
  | base => exact fun _ => hj
  | succ k hk ih =>
    intro hk32
    rw [hstep ⟨k, hk32⟩, hz k hk32 hk, atSel_zero]
    exact multiple_ptCadda_aIdent (ih (by omega))

theorem coords_gen : Coords genPoint baseX baseY 1 baseT := by
  obtain ⟨-, -, hsegre⟩ := goodP_gen
  have hX : toField genPoint.X = baseX := toField_limbs (by decide)
  have hY : toField genPoint.Y = baseY := toField_limbs (by decide)
  have hT : toField genPoint.T = baseT := toField_limbs (by decide)
  have hZ : toField genPoint.Z = 1 := rep_one.value
  rw [hX, hY, hZ, hT] at hsegre
  exact ⟨rep_limbs (by decide), rep_limbs (by decide), rep_one, rep_limbs (by decide), hsegre⟩

theorem rep_limbs_mod (v : Nat) : Rep (limbs (v % fieldP)) v := by
  rw [← ZMod.natCast_mod]
  exact rep_limbs ((Nat.mod_lt v (by decide)).trans (by decide))

/-- The ROM's first entry caches the generator (R48). -/
theorem cachesAffine_rom : CachesAffine BPT[0][0] baseX baseY baseT := by
  have hrom : BPT[0][0] = ⟨limbs ((baseY + baseX) % fieldP), limbs ((baseY + (fieldP - baseX)) % fieldP),
      limbs (2 * curveD * baseT % fieldP)⟩ := by decide +kernel
  have hP := rep_limbs_mod (baseY + baseX)
  have hM := rep_limbs_mod (baseY + (fieldP - baseX))
  have hT := rep_limbs_mod (2 * curveD * baseT)
  rw [Nat.cast_add] at hP
  rw [Nat.cast_add, Nat.cast_sub (by decide), ZMod.natCast_self, zero_sub, ← sub_eq_add_neg] at hM
  rw [Nat.cast_mul, Nat.cast_mul, Nat.cast_ofNat] at hT
  rw [hrom]
  exact ⟨hP, hM, hT⟩

/-- After the odd digits, all 0 for a scalar below 16, the accumulator is still the identity (R277). -/
theorem multiple_ident_bmul {s : Nat} {odd even : Nat → P3} (h0 : odd 0 = ptIdent) (h16 : Mul16Run (odd 32) (even 0))
    (hstep : ∀ k : Fin 32, odd (k.val + 1) = p3FromC (ptCadda (odd k.val) (atSel BPT[k] (radix16Byte s (2 * k.val + 1)))))
    (hz : ∀ i < 64, 0 < i → radix16Byte s i = 0) : Multiple ptIdent (even 0) := by
  have hodd : Multiple ptIdent (odd 32) :=
    multiple_rows (byte := fun k => radix16Byte s (2 * k + 1)) (j := 0) (by rw [h0]; exact multiple_refl coords_ident) hstep
      (fun k hk _ => hz _ (by omega) (by omega)) (by omega) le_rfl
  rw [mul16Run_iff.1 h16]
  exact multiple_ident_ptMul16 hodd

theorem multiple_ident_ptBmul_zero : Multiple ptIdent (ptBmul 0) := by
  obtain ⟨odd, even, h0, h16, hlast, hstep⟩ := bmulRun_ptBmul 0
  have heven := multiple_ident_bmul h0 h16 (fun k => (hstep k).1) fun i hi _ => radix16Byte_zero i hi
  rw [hlast]
  exact multiple_rows (byte := fun k => radix16Byte 0 (2 * k)) heven (fun k => (hstep k).2)
    (fun k hk _ => radix16Byte_zero _ (by omega)) (by omega) le_rfl

theorem multiple_gen_ptBmul_one : Multiple genPoint (ptBmul 1) := by
  obtain ⟨odd, even, h0, h16, hlast, hstep⟩ := bmulRun_ptBmul 1
  have heven := multiple_ident_bmul h0 h16 (fun k => (hstep k).1) radix16Byte_one
  have hsel : atSel BPT[(0 : Fin 32)] 1 = BPT[0][0] := atSel_pos BPT[(0 : Fin 32)] 0
  have h1 : even 1 = p3FromC (ptCadda (even 0) (atSel BPT[(0 : Fin 32)] (radix16Byte 1 0))) := (hstep 0).2
  rw [radix16Byte_one_zero, hsel] at h1
  have hB : Multiple genPoint (even 1) := h1 ▸ multiple_ident_ptCadda heven coords_gen cachesAffine_rom
  rw [hlast]
  exact multiple_rows (byte := fun k => radix16Byte 1 (2 * k)) hB (fun k => (hstep k).2)
    (fun k hk hj => radix16Byte_one _ (by omega) (by omega)) (by omega) le_rfl

/-- The generator's order (R17), by running R271's chain on it: a fact about one point. -/
theorem ptEq_ptMulL_gen : ptEq (ptMulL genPoint) ptIdent = true := by decide +kernel

/-- Settles O59: each law's two sides have proportional coordinates, by polynomial identities and the curve equation; the multiples of
the generator are read off the loops of PSMUL and PBMUL. -/
theorem groupLaws : Obligations.GroupLaws := by
  unfold Obligations.GroupLaws
  refine ⟨fun u v hu hv cu cv => ?laws, ?smulZero, ?smulOne, ?bmulZero, ?bmulOne, ptEq_ptMulL_gen⟩
  case laws =>
    have gu : GoodP u := ⟨hu, cu⟩
    have gv : GoodP v := ⟨hv, cv⟩
    exact ⟨ptEq_of_multiple (multiple_ptAdd_comm (coords_of_good gu) (coords_of_good gv)),
      ptEq_of_multiple_symm (multiple_ptAdd_ident (coords_of_good gu)),
      ptEq_of_multiple_symm (multiple_ident_ptSub_self gu),
      ptEq_of_multiple_symm (multiple_ident_ptAdd_neg gu),
      ptEq_of_multiple (multiple_ptAdd_self gu), ptEq_of_multiple (multiple_ptMul8 gu)⟩
  case smulZero => exact ptEq_of_multiple_symm (multiple_ident_ptSmul_zero genPoint)
  case smulOne => exact ptEq_of_multiple_symm (multiple_ptSmul_one coords_gen)
  case bmulZero => exact ptEq_of_multiple_symm multiple_ident_ptBmul_zero
  case bmulOne => exact ptEq_of_multiple_symm multiple_gen_ptBmul_one

end Sys2Proof.Proofs

/-! The system commands (45_system.md): O26. A component is named by its place in the register's list of limb vectors (R313). -/

namespace Sys2Proof.Proofs

open Sys2Proof.Machine

theorem compP_eq_getD (p : P3) (c : Fin 4) : compP p c = [p.X, p.Y, p.Z, p.T].getD c .zero := by
  fin_cases c <;> rfl

theorem compJ_eq_getD (p : P2) (c : Fin 3) : compJ p c = [p.X, p.Y, p.Z].getD c .zero := by
  fin_cases c <;> rfl

theorem compC_eq_getD (p : P1xP1) (c : Fin 4) : compC p c = [p.X, p.Y, p.Z, p.T].getD c .zero := by
  fin_cases c <;> rfl

theorem compQ_eq_getD (p : ProjCached) (c : Fin 4) : compQ p c = [p.YpX, p.YmX, p.Z, p.T2d].getD c .zero := by
  fin_cases c <;> rfl

theorem compA_eq_getD (p : AffineCached) (c : Fin 3) : compA p c = [p.YpX, p.YmX, p.T2d].getD c .zero := by
  fin_cases c <;> rfl

/-- Settles O26: NOP and KSET are a completion and a completed write; XGET passes its source's tag check and completes the write of
the component. -/
theorem systemResults : Obligations.SystemResults := by
  unfold Obligations.SystemResults
  refine fun s => ⟨rfl, fun d b => rfl, fun d r c hP => ?ofP, fun d r c hJ => ?ofJ, fun d r c hC => ?ofC, fun d r c hQ => ?ofQ,
    fun d r c hA => ?ofA⟩
  case ofP =>
    rw [exec, execXget, withComponent, withP, withTagged_of_tag hP, compP_eq_getD]
    rfl
  case ofJ =>
    rw [exec, execXget, withComponent, withJ, withTagged_of_tag hJ, compJ_eq_getD]
    rfl
  case ofC =>
    rw [exec, execXget, withComponent, withC, withTagged_of_tag hC, compC_eq_getD]
    rfl
  case ofQ =>
    rw [exec, execXget, withComponent, withQ, withTagged_of_tag hQ, compQ_eq_getD]
    rfl
  case ofA =>
    rw [exec, execXget, withComponent, withA, withTagged_of_tag hA, compA_eq_getD]
    rfl

end Sys2Proof.Proofs

/-! Errors (60_exceptions.md): what a command does to the error record (O13, O15), and which error it raises (O14). The error a command
reports is a chain of checks in the order of R323; each operand form of the command settles one check of the chain. -/

namespace Sys2Proof.Proofs

open Sys2Proof.Machine Sys2Proof.Laws

/-! ## The error record after a command (R322) -/

theorem applyAll_ERRSTICKY (us : List Update) (s : State) : (applyAll us s).ERRSTICKY = s.ERRSTICKY :=
  applyAll_induction (p := fun t => t.ERRSTICKY = s.ERRSTICKY) (fun u t ht => by cases u <;> exact ht) us s rfl

/-- What a CMD write does to the error record: one error other than code 6 is recorded and nothing else but the count changes, or the
command completes. -/
theorem command_cases {w : Word32} {s t : State} (h : command w s = .next t) :
    (∃ e, e ≠ .lengthMismatch ∧ t = { s with
        CMDCNT := s.CMDCNT + 1
        LASTERR := errorCode e
        ERRSTICKY := s.ERRSTICKY ||| stickyBit (errorCode e) }) ∨
      (t.CMDCNT = s.CMDCNT + 1 ∧ t.LASTERR = 0 ∧ t.ERRSTICKY = s.ERRSTICKY) := by
  unfold command at h
  cases hd : decode w with
  | ok i =>
    rw [hd] at h
    obtain ⟨e, he, ht⟩ | ⟨us, -, -, rfl⟩ := exec_cases h
    · exact .inl ⟨e, he, ht⟩
    · exact .inr ⟨applyAll_CMDCNT us _, rfl, applyAll_ERRSTICKY us _⟩
  | error _ =>
    rw [hd] at h
    exact .inl ⟨.illegalCommand, by decide, raise_eq.1 h⟩

/-- STATUS.ERR (R41). -/
theorem statusWord_getLsbD_one (s : State) : (statusWord s).getLsbD 1 = true ↔ s.LASTERR ≠ 0 := by
  unfold statusWord
  split
  · next h => simp [h]
  · next h => exact iff_of_true rfl h

/-- Settles O13: of the two ways a command ends, one records an error, whose code is not 0, and the other completes. -/
theorem raiseSemantics : Obligations.RaiseSemantics := by
  unfold Obligations.RaiseSemantics
  intro w s t h
  obtain ⟨e, -, rfl⟩ | ⟨hcount, herr, hsticky⟩ := command_cases h
  · exact ⟨rfl, .inr ⟨errorCode_ne_zero e, rfl⟩, statusWord_getLsbD_one _⟩
  · exact ⟨hcount, .inl ⟨herr, hsticky⟩, statusWord_getLsbD_one t⟩

/-! ## Code 6 (R329) -/

/-- Bit 6 is one of the bits of ERRSTICKY that exist (R43). -/
theorem errStickyWord_getLsbD_six (s : State) : (errStickyWord s).getLsbD 6 = s.ERRSTICKY.getLsbD 6 := by
  rw [errStickyWord, BitVec.getLsbD_and, stickyMask_getLsbD 6 (by decide)]
  exact Bool.and_true _

theorem stickyBit_getLsbD_six {e : CmdError} (he : e ≠ .lengthMismatch) : (stickyBit (errorCode e)).getLsbD 6 = false := by
  cases e with
  | lengthMismatch => exact absurd rfl he
  | _ => decide

theorem command_sticky_six {w : Word32} {s t : State} (h : command w s = .next t) (h6 : s.ERRSTICKY.getLsbD 6 = false) :
    t.ERRSTICKY.getLsbD 6 = false := by
  obtain ⟨e, he, rfl⟩ | ⟨-, -, hsticky⟩ := command_cases h
  · rw [BitVec.getLsbD_or, h6, stickyBit_getLsbD_six he]
    rfl
  · rwa [hsticky]

/-- Only a command sets an ERRSTICKY bit: a write to ERRSTICKY clears some, a reset all, and no other access touches them (R43). -/
theorem access_sticky_six {a : Access} {s t : State} (h : access a s = .next t) (h6 : s.ERRSTICKY.getLsbD 6 = false) :
    t.ERRSTICKY.getLsbD 6 = false := by
  obtain ⟨w, rfl⟩ | ⟨off, v, -, hw⟩ | rfl := access_cases h
  · exact h6
  · obtain hc | rfl | rfl | rfl | rfl | ⟨-, rfl⟩ | ⟨n, rfl⟩ := writeWord_cases hw
    · exact command_sticky_six hc h6
    · rw [clearSticky, BitVec.getLsbD_and, h6]
      rfl
    · exact h6
    · exact BitVec.getLsbD_zero
    · exact h6
    · exact h6
    · exact h6
  · exact BitVec.getLsbD_zero

/-- Settles O15: the errors a command can raise have other codes, so that bit 6 is never set. -/
theorem lengthMismatchNever : Obligations.LengthMismatchNever := by
  unfold Obligations.LengthMismatchNever
  refine ⟨fun w s t h => ?code, rfl, fun s t h h6 => ?step⟩
  case code =>
    obtain ⟨e, he, rfl⟩ | ⟨-, herr, -⟩ := command_cases h
    · exact (errorCode_legal he).2
    · rw [herr]
      decide
  case step =>
    change (errStickyWord t).getLsbD 6 = false
    rw [errStickyWord_getLsbD_six]
    have hs : s.ERRSTICKY.getLsbD 6 = false := (errStickyWord_getLsbD_six s).symm.trans h6
    obtain rfl | ⟨a, rest, ha⟩ := step_cases h
    · exact hs
    · exact access_sticky_six ha hs

/-! ## The chain of checks (R323) -/

/-- The error of one check. -/
def errorUnless (ok : Bool) (e : CmdError) : Option CmdError := if ok then none else some e

theorem errorUnless_true (e : CmdError) : errorUnless true e = none := rfl

theorem errorUnless_false (e : CmdError) : errorUnless false e = some e := rfl

theorem errorUnless_and (a b : Bool) (e : CmdError) : errorUnless (a && b) e = (errorUnless a e).or (errorUnless b e) := by
  cases a <;> rfl

theorem ite_eq_errorUnless (c : Prop) [Decidable c] (e : CmdError) : (if c then none else some e) = errorUnless (decide c) e := by
  by_cases hc : c
  · rw [if_pos hc, decide_eq_true hc, errorUnless_true]
  · rw [if_neg hc, decide_eq_false hc, errorUnless_false]

/-- The order of R323 as a chain. -/
theorem errorOf_eq (i : Instr) (s : State) : errorOf i s =
    (errorUnless i.wellFormed .illegalCommand).or ((errorUnless ((tableTags i s).all id) .tableNotBuilt).or
      ((errorUnless ((pointTags i s).all id) .uninitializedPoint).or ((lengthError i s).or ((dataError i s).or none)))) := by
  unfold errorOf
  rw [Option.or_none]
  cases i.wellFormed <;> cases (tableTags i s).all id <;> cases (pointTags i s).all id <;> rfl

/-- The outcome a chain of checks calls for: its first error raised, or a completion. -/
inductive Answers (s : State) : Option CmdError → Outcome → Prop where
  | raises (e : CmdError) : Answers s (some e) (raise e s)
  | completes (u : State) : Answers s none (complete u)

/-- The tags of a range of P registers, as `pointTags` lists them for PMSM and PVMSM (R102, R328). -/
def rangeTags (b : Fin 16) (n : Nat) (s : State) : List Bool :=
  (List.finRange 16).filterMap fun k => if b ≤ k ∧ k.val < b.val + n then some s.P[k].tag else none

section Chain

variable {s : State} {x : Option CmdError} {o : Outcome}

theorem Answers.eq_raise {e : CmdError} (h : Answers s (some e) o) : o = raise e s := by
  cases h
  rfl

theorem Answers.eq_complete (h : Answers s none o) : ∃ u, o = complete u := by
  cases h with
  | completes u => exact ⟨u, rfl⟩

/-- A check of the command, in the model's form, settles the first check of the chain. -/
theorem answers_ite {c : Prop} [Decidable c] {ok : Bool} (hc : c ↔ ok = true) {e : CmdError} (h : c → Answers s x o) :
    Answers s ((errorUnless ok e).or x) (if c then o else raise e s) := by
  cases ok with
  | true =>
    rw [if_pos (hc.2 rfl)]
    exact h (hc.2 rfl)
  | false =>
    rw [if_neg fun h1 => Bool.noConfusion (hc.1 h1)]
    exact .raises e

theorem answers_withLegal {ok : Bool} (h : ok = true → Answers s x o) :
    Answers s ((errorUnless ok .illegalCommand).or x) (withLegal ok s o) :=
  answers_ite Iff.rfl h

theorem answers_withTagged {α : Type} {r : Tagged α} {e : CmdError} {k : α → Outcome} (hk : ∀ v, Answers s x (k v)) :
    Answers s ((errorUnless r.tag e).or x) (withTagged r e s k) :=
  answers_ite Iff.rfl fun _ => hk r.val

theorem answers_withBytes {n : Fin 4} {len : Nat} {e : CmdError} {k : List Byte → Outcome}
    (hk : Answers s x (k (ioBytes n len s))) :
    Answers s ((errorUnless (decide (s.IOLEN[n].toNat = len)) e).or x) (withBytes n len e s k) :=
  answers_ite decide_eq_true_iff.symm fun _ => hk

theorem answers_withDigit {b : Fin 8} {i : Fin 256} {k : Byte → Outcome} (hk : ∀ d, Answers s x (k d)) :
    Answers s ((errorUnless (decide (-8 ≤ s.DG[b][i].toInt ∧ s.DG[b][i].toInt ≤ 8)) .illegalDigit).or x) (withDigit b i s k) := by
  refine answers_ite ?_ fun _ => hk _
  rw [digitLegal, legalDigit, Bool.decide_and]

theorem answers_withSome {α : Type} {v : Option α} {ok : Bool} (hv : v.isSome = ok) {e : CmdError} {k : α → Outcome}
    (hk : ∀ a, Answers s x (k a)) : Answers s ((errorUnless ok e).or x) (withSome v e s k) := by
  subst hv
  cases v with
  | none => exact .raises e
  | some a => exact hk a

/-- A legal range names the registers of the pairs (R102, R279). -/
theorem all_pairSources_tag_iff_rangeTags {a : Fin 8} {b : Fin 16} {n : Nat} (ha : a.val + n ≤ 8) (hb : b.val + n ≤ 16) :
    (pairSources a b n s).all (fun p => p.2.tag) = true ↔ (rangeTags b n s).all id = true := by
  rw [all_pairSources_tag s ha hb]
  simp only [rangeTags, List.all_eq_true, List.mem_filterMap, List.mem_finRange, true_and, id]
  constructor
  · rintro h tag ⟨k, hk⟩
    split at hk
    · next hr =>
      cases hk
      have hle : b.val ≤ k.val := hr.1
      have hlt : k.val - b.val < n := by omega
      simpa only [Nat.add_sub_cancel' hle, Fin.getElem_fin] using h ⟨k.val - b.val, hlt⟩
    · cases hk
  · intro h k
    refine h _ ⟨⟨b.val + k.val, by omega⟩, if_pos ⟨?_, ?_⟩⟩
    · exact Nat.le_add_right b.val k.val
    · exact Nat.add_lt_add_left k.isLt b.val

theorem answers_withPairs {a : Fin 8} {b : Fin 16} {n : Nat} {k : List (Nat × P3) → Outcome} (hk : ∀ l, Answers s x (k l)) :
    Answers s ((errorUnless (legalPairs a b n) .illegalCommand).or
      ((errorUnless ((rangeTags b n s).all id) .uninitializedPoint).or x)) (withPairs a b n s k) := by
  refine answers_withLegal fun hl => ?_
  obtain ⟨ha, hb⟩ := legalPairs_iff.1 hl
  exact answers_ite (all_pairSources_tag_iff_rangeTags ha hb) fun _ => hk _

/-- XGET's source is a register of one of five files (R313). -/
theorem answers_withComponent {d : Fin 32} {src : Component} {k : Limbs → Outcome} (hk : ∀ v, Answers s none (k v)) :
    Answers s ((errorUnless ((pointTags (.xget d src) s).all id) .uninitializedPoint).or none) (withComponent src s k) := by
  have hone (b : Bool) : [b].all id = b := Bool.and_true b
  cases src <;> exact (hone _).symm ▸ answers_withTagged fun _ => hk _

end Chain

theorem isSome_scSetCanonical (b : List Byte) : (scSetCanonical b).isSome = decide (leNat b < ell) := by
  unfold scSetCanonical
  split
  · next h => exact (decide_eq_false (Nat.not_lt.2 h)).symm
  · next h => exact (decide_eq_true (Nat.not_le.1 h)).symm

/-- The commands, grouped by the checks they make: each operand form settles the check that stands first in the chain.
The chain is reduced by proofs and not by definition, for which a point check would be evaluated. -/
theorem exec_answers (i : Instr) (s : State) : Answers s (errorOf i s) (exec i s) := by
  rw [errorOf_eq]
  cases i with
    (dsimp only [exec, execXget, execFsetb, execFldl, execSsetc, execSsetu, execSsetcl, execSnaf, execJfromp, execJfromc,
      execPfromc, execQfromp, execAfromp, execCadd, execCsub, execCadda, execCsuba, execCdbl, execLtbuild, execLtsel, execLtseli,
      execAtbuild, execAtsel, execAtseli, execBtsel, execBtseli, execNtbuild, execNtsel, execBnsel, execPmov, execPsetb,
      execPgetb, execPgetm, execPadd, execPsub, execPneg, execPeq, execPmul8, execPmull, execPext, execPsetext, execPsmul,
      execPvdsbm, execPmsm, execPvmsm, withP, withJ, withC, withQ, withA, withLT, withAT, withNT, withImmDigit,
      Instr.wellFormed, tableTags, pointTags, lengthError, lengthNeed, dataError, List.all_cons, List.all_nil, id]
     simp -implicitDefEqProofs only [ite_eq_errorUnless, errorUnless_and, errorUnless_true, Option.none_or,
       Option.or_assoc, Bool.decide_eq_true])
  -- no check
  | nop | kset | dgst | fldc | fmov | fadd | fsub | fneg | fmul | fsqr | fmul32 | fcarry | freduce | finv | fpow | fsqrtr | fisneg
  | feq | fsel | fswap | fcneg | fgetb | fstl | smov | sadd | ssub | sneg | smul | sinv | seq | sgetb | srdx16 | pident | pgen
  | pbmul => exact .completes _
  -- operands
  | snaf | btseli | bnsel => exact answers_withLegal fun _ => .completes _
  | ltseli | atseli | ntsel => exact answers_withLegal fun _ => answers_withTagged fun _ => .completes _
  | pmsm | pvmsm => exact answers_withPairs fun _ => .completes _
  -- one tag
  | jfromp | jfromc | pfromc | qfromp | afromp | cdbl | ltbuild | atbuild | ntbuild | pmov | pgetb | pgetm | pneg | pmul8 | pmull
  | pext | psmul | pvdsbm => exact answers_withTagged fun _ => .completes _
  | xget => exact answers_withComponent fun _ => .completes _
  -- two tags
  | cadd | csub | cadda | csuba | padd | psub | peq => exact answers_withTagged fun _ => answers_withTagged fun _ => .completes _
  -- lengths
  | fsetb | fldl | ssetu | ssetcl => exact answers_withBytes (.completes _)
  -- data
  | ssetc => exact answers_withBytes (answers_withSome (isSome_scSetCanonical _) fun _ => .completes _)
  | psetb => exact answers_withBytes (answers_withSome rfl fun _ => .completes _)
  | ltsel | atsel => exact answers_withTagged fun _ => answers_withDigit fun _ => .completes _
  | btsel => exact answers_withDigit fun _ => .completes _
  | psetext => exact answers_ite Iff.rfl fun _ => .completes _

/-- Settles O14: the chain of checks says which error is raised; where it finds none the command completes, and a completion leaves
ERRSTICKY. -/
theorem errorPriority : Obligations.ErrorPriority := by
  unfold Obligations.ErrorPriority
  intro i s
  refine ⟨fun e he => ?raises, fun hn => ?completes⟩
  case raises => exact (he ▸ exec_answers i s).eq_raise
  case completes =>
    obtain ⟨u, hu⟩ := (hn ▸ exec_answers i s).eq_complete
    refine ⟨{ u with LASTERR := 0 }, hu, rfl, ?_⟩
    obtain ⟨e, -, ht⟩ | ⟨us, -, -, ht⟩ := exec_cases hu
    · exact absurd (congrArg State.LASTERR ht).symm (errorCode_ne_zero e)
    · rw [ht]
      exact applyAll_ERRSTICKY us s

end Sys2Proof.Proofs
